-- ==== Sys2Proof/Word.lean ====
section
/-! DEFINITION. The word types and the fixed-size table of the model.

The spec counts almost everything as integers (00_scope.md, "Arithmetic"), so numbers are `Nat` and
`Int`; bit vectors stand where the spec sends or keeps bits: bytes and 16-bit fields of packets and
records, sound samples, the tone phase, the wrapping frame counter, 8-bit colour components. -/

namespace Sys2Proof

/-- One byte of a packet, of a record or of the image store. -/
abbrev Byte := BitVec 8

/-- One 16-bit field of parameters and reply data (R169), one pixel word, one sound sample. -/
abbrev Word := BitVec 16

/-- A table of exactly `n` like things, numbered from 0: plain data, a list with its length. -/
structure Tab (α : Type) (n : Nat) where
  toList : List α
  len : toList.length = n
deriving DecidableEq, Repr

namespace Tab

variable {α β : Type} {n : Nat}

/-- Entry `i` of the table. -/
def get (t : Tab α n) (i : Fin n) : α := t.toList[i.val]'(t.len.symm ▸ i.isLt)

/-- The table with entry `i` replaced. -/
def set (t : Tab α n) (i : Fin n) (x : α) : Tab α n :=
  ⟨t.toList.set i.val x, (List.length_set).trans t.len⟩

/-- The table with entry `i` changed by `f`. -/
def modify (t : Tab α n) (i : Fin n) (f : α → α) : Tab α n := t.set i (f (t.get i))

/-- The table whose every entry is `x`. -/
def replicate (n : Nat) (x : α) : Tab α n := ⟨List.replicate n x, List.length_replicate⟩

/-- The table with every entry changed by `f`. -/
def map (f : α → β) (t : Tab α n) : Tab β n := ⟨t.toList.map f, (List.length_map f).trans t.len⟩

/-- The table whose entry `i` is `f i`. -/
def ofFn (f : Fin n → α) : Tab α n := ⟨List.ofFn f, List.length_ofFn⟩

end Tab

/-- A set of numbered members 0 to n - 1: member k is in it when entry k is true. -/
abbrev FlagSet (n : Nat) := Tab Bool n

namespace FlagSet

variable {n : Nat}

/-- The set with no member. -/
def empty (n : Nat) : FlagSet n := Tab.replicate n false

/-- The set with member `k` added; it stands in it at most once. -/
def insert (s : FlagSet n) (k : Fin n) : FlagSet n := Tab.set s k true

/-- The set with member `k` taken out. -/
def erase (s : FlagSet n) (k : Fin n) : FlagSet n := Tab.set s k false

/-- Whether no member is in the set. -/
def isEmpty (s : FlagSet n) : Bool := s.toList.all not

/-- The members of either set. -/
def union (s t : FlagSet n) : FlagSet n := Tab.ofFn fun k => Tab.get s k || Tab.get t k

end FlagSet

end Sys2Proof
end

