-- ==== Sys2Proof/Syntax.lean ====
section
/-! DEFINITION. The commands the block takes: one constructor for each row of spec/opcode_table.json.

A packet row carries the received frame as bytes, check included (R168). The rows that execute a
command of the head unit carry no operand: the command executed is the one at the head of the
command queue, with its own tag, notify flag and parameters (R149, R150; log 3). -/

namespace Sys2Proof

/-- The link a frame is received on. -/
inductive LinkId where
  | cabin
  | camera
deriving DecidableEq, Repr

/-- The electrical level of the reverse line (R39). -/
inductive LineLevel where
  | high
  | low
deriving DecidableEq, Repr

/-- The seven targets of the signal map, in the order R42 names them. -/
inductive Target where
  | steer
  | speed
  | dist0
  | dist1
  | dist2
  | dist3
  | reverse
deriving DecidableEq, Repr

/-- The place of a target in R42's order. -/
def Target.index : Target → Fin 7
  | .steer => 0
  | .speed => 1
  | .dist0 => 2
  | .dist1 => 3
  | .dist2 => 4
  | .dist3 => 5
  | .reverse => 6

/-- The targets in R42's order. -/
def Target.all : List Target := [.steer, .speed, .dist0, .dist1, .dist2, .dist3, .reverse]

/-- A frame on the vehicle bus received without a bus error (R41). -/
structure CanFrame where
  extended : Bool
  ident : Nat
  /-- A remote frame carries no data and does not reach extraction (R41). -/
  remote : Bool
  /-- The data length code, 0 to 15; above 8 it means 8 bytes. -/
  dlc : Nat
  data : List Byte
deriving DecidableEq, Repr

/-- How one step of SAVE SETTINGS ended (R166). -/
inductive FlashOutcome where
  /-- The flash reports success and the read-back equals what was written. -/
  | matched
  /-- The erase or the write reports failure. -/
  | reportedFailure
  /-- The write reports success and the read-back differs. -/
  | readBackDiffers
deriving DecidableEq, Repr

/-- A screen: 0 FRONT, 1 REAR-LEFT, 2 REAR-RIGHT (00_scope.md). -/
abbrev ScreenId := Fin 3

/-- A picture stream: 0 to 6 from the cabin link, 7 the camera stream (00_scope.md). -/
abbrev StreamId := Fin 8

/-- The 69 commands (rows of spec/opcode_table.json, in its order). -/
inductive Instr where
  | resetLine
  | linePacket (link : LinkId) (frame : List Byte)
  | soundPacket (frame : List Byte)
  | controlPacket (frame : List Byte)
  | malformedFrame (link : LinkId) (frame : List Byte)
  | cabinLinkLockAcquired
  | cabinLinkLoss
  | cameraLinkLock
  | cameraLinkUnlock
  | backChannelPacketSent
  | waitingReplyEnqueue
  | frameStart (screen : ScreenId)
  | lockedFrameStart
  | lineDemand (screen : ScreenId)
  | audioBlockBoundary
  | sampleInstant
  | stallTimerExpiry (stream : StreamId)
  | reverseLineSample (level : LineLevel)
  | receivedCanFrame (frame : CanFrame)
  | staleTimerExpiry (target : Target)
  | entryDeadlineExpiry
  | lingerTimerExpiry
  | exitDeadlineExpiry
  | flashHeaderLoad (answers : Bool)
  | flashRecordLoad
  | flashWriteComplete (outcome : FlashOutcome)
  | openStream
  | closeStream
  | streamStatus
  | writeScreen
  | readScreen
  | writeSignalSettings
  | writeSignalEntry
  | readSignals
  | writeTakeoverSettings
  | startView
  | stopView
  | takeoverStatus
  | writeGuideSettings
  | writeGuideSet
  | readGuideResult
  | defineImage
  | imageData
  | freeImage
  | imageInfo
  | writePalette
  | writeObject
  | clearObject
  | readObject
  | openSound
  | closeSound
  | writeMix
  | writeDuck
  | audioStatus
  | writePattern
  | playChime
  | stopChime
  | chimeStatus
  | writeParkRates
  | commit
  | commitStatus
  | readTable
  | saveSettings
  | queryAttention
  | writeAttentionEnables
  | partStatus
  | resetFull
  | resetMedia
  | unknownCommand
deriving DecidableEq, Repr

end Sys2Proof
end

