-- ==== Sys2Proof/Decode.lean ====
section
/-! DEFINITION. From bytes to packets (chapter 12), and the table's own decoder.

spec/opcode_table.json gives no row any bits, so `decodeTableWord` spells no command. What the part
itself decodes are the frames of its links: `parseFrame` reads one, total on any bytes. -/

namespace Sys2Proof

/-- The command a word spells by the table's bits: the table gives bits to no row. -/
def decodeTableWord (_nbits _w : Nat) : Option Instr := none

/-! ### Bytes and fields, most significant byte first (chapter 12, opening) -/

/-- The 16-bit field sent as the bytes `h` then `l`. -/
def wordOfBytes (h l : Byte) : Word := h ++ l

/-- The number sent as the bytes `h` then `l`. -/
def nat16 (h l : Byte) : Nat := (wordOfBytes h l).toNat

/-- The bytes of a 16-bit field, high byte first. -/
def bytesOfWord (w : Word) : List Byte := [w.extractLsb' 8 8, w.extractLsb' 0 8]

/-- The bytes of a list of fields. -/
def bytesOfWords (ws : List Word) : List Byte := ws.flatMap bytesOfWord

/-- The fields of a list of bytes: a whole number of 16-bit fields, or none (R150, check 3). -/
def wordsOfBytes : List Byte → Option (List Word)
  | [] => some []
  | [_] => none
  | h :: l :: rest => (wordsOfBytes rest).map (wordOfBytes h l :: ·)

/-! ### The checks of the links and of the flash -/

/-- One bit of the CRC-16 of R168: generator 0x1021, not reflected. -/
def crc16Bit (c : BitVec 16) : BitVec 16 :=
  if c.msb then (c <<< 1) ^^^ 0x1021#16 else c <<< 1

/-- `f` applied `n` times. -/
def iterate {α : Type} (f : α → α) : Nat → α → α
  | 0, x => x
  | n + 1, x => iterate f n (f x)

/-- The CRC-16 of R168: initial value 0xFFFF, no final inversion. -/
def crc16 (bs : List Byte) : BitVec 16 :=
  bs.foldl (fun (c : BitVec 16) (b : Byte) => iterate crc16Bit 8 (c ^^^ (b ++ 0#8))) 0xFFFF#16

/-- One bit of the CRC-32 of R172: generator 0x04C11DB7, reflected (0xEDB88320). -/
def crc32Bit (c : BitVec 32) : BitVec 32 :=
  if c.getLsbD 0 then (c >>> 1) ^^^ 0xEDB88320#32 else c >>> 1

/-- The CRC-32 of R172: an initial value of all ones and a final inversion. -/
def crc32 (bs : List Byte) : BitVec 32 :=
  ~~~(bs.foldl (fun (c : BitVec 32) (b : Byte) => iterate crc32Bit 8 (c ^^^ b.setWidth 32))
    (BitVec.allOnes 32))

/-- The four bytes of a 32-bit field, most significant first. -/
def bytesOf32 (w : BitVec 32) : List Byte :=
  [w.extractLsb' 24 8, w.extractLsb' 16 8, w.extractLsb' 8 8, w.extractLsb' 0 8]

/-! ### Packets of the forward direction and of the camera link (R169) -/

/-- A stereo frame: left and right sample, two's complement (R109). -/
structure StereoFrame where
  left : Word
  right : Word
deriving DecidableEq, Repr

/-- The content of a LINE packet: one segment of one line. -/
structure LinePacket where
  stream : StreamId
  line : Nat
  first : Nat
  pixels : List Word
deriving DecidableEq, Repr

/-- The content of a SOUND packet. -/
structure SoundPacket where
  stream : Fin 4
  frames : List StereoFrame
deriving DecidableEq, Repr

/-- The content of a CONTROL packet (R149): command code, tag, notify flag, parameter bytes. -/
structure ControlPacket where
  code : Nat
  tag : Byte
  notify : Bool
  params : List Byte
deriving DecidableEq, Repr

/-- A good frame's packet. -/
inductive Packet where
  | line (p : LinePacket)
  | sound (p : SoundPacket)
  | control (p : ControlPacket)
deriving DecidableEq, Repr

/-- Pairs of fields as stereo frames, left sample before right sample (R112). -/
def stereoFrames : List Word → List StereoFrame
  | l :: r :: rest => ⟨l, r⟩ :: stereoFrames rest
  | _ => []

/-- A LINE payload (R169): stream, line number, first pixel, pixel count, pixels; none where R170
calls it bad. -/
def parseLine : List Byte → Option LinePacket
  | st :: nh :: nl :: fh :: fl :: ch :: cl :: px =>
    if h : st.toNat < 8 then
      let count := nat16 ch cl
      if 1 ≤ count ∧ count ≤ 1920 ∧ px.length = 2 * count then
        (wordsOfBytes px).map fun ws => ⟨⟨st.toNat, h⟩, nat16 nh nl, nat16 fh fl, ws⟩
      else none
    else none
  | _ => none

/-- A SOUND payload (R169): sound stream, frame count, frames; none where R170 calls it bad. -/
def parseSound : List Byte → Option SoundPacket
  | st :: ch :: cl :: fr =>
    if h : st.toNat < 4 then
      let count := nat16 ch cl
      if 1 ≤ count ∧ count ≤ 512 ∧ fr.length = 4 * count then
        (wordsOfBytes fr).map fun ws => ⟨⟨st.toNat, h⟩, stereoFrames ws⟩
      else none
    else none
  | _ => none

/-- A CONTROL payload (R169): command code, tag, notify flag, parameters; none with L below 4 (R170).
A notify byte other than 0 or 1 is read as clear (log 21, DESIGN CHOICE). -/
def parseControl : List Byte → Option ControlPacket
  | ch :: cl :: tag :: nf :: params => some ⟨nat16 ch cl, tag, nf == 1#8, params⟩
  | _ => none

/-- The payload of a frame by its kind: 1 LINE, 2 SOUND, 3 CONTROL (R168); any other kind is bad. -/
def parsePayload (kind : Nat) (payload : List Byte) : Option Packet :=
  match kind with
  | 1 => (parseLine payload).map .line
  | 2 => (parseSound payload).map .sound
  | 3 => (parseControl payload).map .control
  | _ => none

/-- A received frame (R168, R170): kind, payload length L, payload, CRC-16 over all before it; none
where the frame is bad. -/
def parseFrame : List Byte → Option Packet
  | k :: lh :: ll :: rest =>
    let len := nat16 lh ll
    if rest.length = len + 2 then
      let payload := rest.take len
      if rest.drop len = bytesOfWord (crc16 (k :: lh :: ll :: payload)) then
        parsePayload k.toNat payload
      else none
    else none
  | _ => none

/-- The LINE packet a frame carries, if it is a good LINE frame. -/
def lineOf (frame : List Byte) : Option LinePacket :=
  match parseFrame frame with
  | some (.line p) => some p
  | _ => none

/-- The SOUND packet a frame carries, if it is a good SOUND frame. -/
def soundOf (frame : List Byte) : Option SoundPacket :=
  match parseFrame frame with
  | some (.sound p) => some p
  | _ => none

/-- The CONTROL packet a frame carries, if it is a good CONTROL frame. -/
def controlOf (frame : List Byte) : Option ControlPacket :=
  match parseFrame frame with
  | some (.control p) => some p
  | _ => none

/-- Whether a frame received on a link is bad there (R170): on the camera link also when its kind is
not LINE. -/
def badOn (link : LinkId) (frame : List Byte) : Bool :=
  match link with
  | .cabin => (parseFrame frame).isNone
  | .camera => (lineOf frame).isNone

/-- A frame of the given kind and payload with its check (R168): what a sender of the links sends,
and the form of the part's own back-channel frames. -/
def frameOf (kind : Byte) (payload : List Byte) : List Byte :=
  let head := kind :: bytesOfWord (BitVec.ofNat 16 payload.length) ++ payload
  head ++ bytesOfWord (crc16 head)

end Sys2Proof
end

