-- ==== Sys2Proof/Machine/State.lean ====
section
/-! DEFINITION. The state of the FV-212, block by block (00_scope.md, "Blocks of the part"), its
values after the reset line, and the reasons a step can stop.

State is plain data: every piece of state the spec names, the settings flash, the output ports, the
model's free-value counter and the queue of commands that wait. -/

namespace Sys2Proof.Machine

open Sys2Proof

/-! ### Outcomes -/

/-- The reasons a step stops with a fault: none. The spec names nothing that stops the part: bad
frames, commands and records are dropped, refused and rejected, and the part goes on. -/
inductive Fault
deriving DecidableEq, Repr

/-- The reasons a step is refused. -/
inductive Refusal where
  /-- Raised by `exec` for a command that has no meaning yet (none). Safe: the run stops. -/
  | notModelled (mnemonic : String)
deriving DecidableEq, Repr

/-! ### Common kinds -/

/-- A timer, stopped or running with the sample periods (1/48000 s) it still has to run (log 2). -/
inductive Timer where
  | stopped
  | running (samplesLeft : Nat)
deriving DecidableEq, Repr

/-- Bytes at addresses: strictly rising addresses, none listed with the byte an unlisted address
reads as (`Memory.wf`). -/
abbrev Memory := List Host.Cell

/-- An 8-bit colour. -/
structure RGB where
  r : Byte
  g : Byte
  b : Byte
deriving DecidableEq, Repr

/-- An 8-bit colour with an 8-bit alpha. -/
structure RGBA where
  r : Byte
  g : Byte
  b : Byte
  a : Byte
deriving DecidableEq, Repr

/-- ENGAGED or RELEASED: the reverse line's samples and level (R39), the reverse request (R49). -/
inductive Level where
  | engaged
  | released
deriving DecidableEq, Repr

/-! ### Command results (R151) -/

/-- The result of a reply, in the order of R151's table (its place is its code, R169). -/
inductive Result where
  | ok
  | started
  | queued
  | merged
  | dropped
  | reverseHeld
  | notActive
  | busy
  | badCommand
  | badLength
  | badValue
  | noRoom
  | inUse
  | notDefined
  | reservedItem
  | speedHigh
  | invalidTable
deriving DecidableEq, Repr

/-! ### Link Interface (R158, R170) -/

/-- The cabin link lock: held, lost by the Link Interface's own declaration (regained at the next
good frame), or lost by the receiver (regained when the receiver reports lock) (R170). -/
inductive CabinLock where
  | locked
  | lostDeclared
  | lostReceiver
deriving DecidableEq, Repr

/-- A reply (R151): tag, command code as received, result, data fields. -/
structure Reply where
  tag : Byte
  code : Nat
  result : Result
  data : List Word
deriving DecidableEq, Repr

/-- PAUSE or RESUME (R111). -/
inductive FlowKind where
  | pause
  | resume
deriving DecidableEq, Repr

/-- A back-channel packet (R169). -/
inductive BackPacket where
  | reply (r : Reply)
  | frameMarker (screen : ScreenId) (source : Option StreamId) (frame : Byte)
  | flowMarker (stream : Fin 4) (kind : FlowKind)
deriving DecidableEq, Repr

/-- The Link Interface. -/
structure LinkUnit where
  lock : CabinLock
  errors : Nat
  back : List BackPacket
  waiting : Option Reply
deriving DecidableEq, Repr

/-- The reset line makes the counter 0 and the lock lost until the receiver first reports lock
(R170), and empties the output queue (R158). -/
def LinkUnit.reset : LinkUnit := ⟨.lostReceiver, 0, [], none⟩

/-! ### Stream Manager (R1, R3) -/

/-- A stream's state (R1). -/
inductive StreamState where
  | closed
  | priming
  | running
  | stalled
  | parked
deriving DecidableEq, Repr

/-- A pixel format (R1). -/
inductive PixelFormat where
  | rgb565
  | ycbcr422
deriving DecidableEq, Repr

/-- A queue entry (R3): a line number and the line's pixels, 16 bits each. -/
structure QueueEntry where
  line : Nat
  pixels : List Word
deriving DecidableEq, Repr

/-- The frame-start mark of R3: set when the line number is 0. -/
def QueueEntry.frameStart (e : QueueEntry) : Bool := e.line == 0

/-- A line in assembly (R1): its line number and the pixels held. -/
structure Assembly where
  line : Nat
  pixels : List Word
deriving DecidableEq, Repr

/-- A stream record (R1). -/
structure StreamRec where
  state : StreamState
  width : Nat
  height : Nat
  format : PixelFormat
  capacity : Nat
  readyLevel : Nat
  stallTimeout : Nat
  queue : List QueueEntry
  assembly : Option Assembly
  stallTimer : Timer
  startsToSkip : Nat
  overruns : Nat
  underruns : Nat
  incompletes : Nat
  stalls : Nat
  strays : Nat
deriving DecidableEq, Repr

/-- A stream record after the reset line (R1, last paragraph). -/
def StreamRec.reset : StreamRec where
  state := .closed
  width := 16
  height := 16
  format := .rgb565
  capacity := 2
  readyLevel := 1
  stallTimeout := 10
  queue := []
  assembly := none
  stallTimer := .stopped
  startsToSkip := 0
  overruns := 0
  underruns := 0
  incompletes := 0
  stalls := 0
  strays := 0

/-! ### Screen Assemblers (R20, section 2.2) -/

/-- A screen record (R20). The last three fields are FRONT's; the rear records hold 0, 0, off. -/
structure ScreenRecord where
  width : Nat
  height : Nat
  rate : Nat
  source : Option StreamId
  originX : Nat
  originY : Nat
  fill : RGB
  holdLimit : Nat
  cameraX : Nat
  cameraY : Nat
  guideEnable : Bool
deriving DecidableEq, Repr

/-- The defaults of R20; guide enable exists on FRONT only. -/
def ScreenRecord.reset (front : Bool) : ScreenRecord where
  width := 1280
  height := 720
  rate := 60
  source := none
  originX := 0
  originY := 0
  fill := ⟨0, 0, 0⟩
  holdLimit := 2
  cameraX := 0
  cameraY := 0
  guideEnable := front

/-- FREE or LOCKED timing (R24). -/
inductive TimingMode where
  | free
  | locked
deriving DecidableEq, Repr

/-- PICTURE or LOST (R54, R65). -/
inductive Presentation where
  | picture
  | lost
deriving DecidableEq, Repr

/-- TAKING or FILL (R27). -/
inductive FrameMode where
  | taking
  | fill
deriving DecidableEq, Repr

/-- The window of a frame (R26). -/
structure Window where
  left : Nat
  top : Nat
  width : Nat
  height : Nat
  mirror : Bool
deriving DecidableEq, Repr

/-- The frame record of the frame in progress (section 2.2). `presentation` is present for a camera
frame of FRONT; `shown` is the source the frame's marker gave (R28); `lostImage` the image the lost
image setting named at the frame start, where it was DEFINED then (R36, log 19). -/
structure FrameRec where
  source : Option StreamId
  presentation : Option Presentation
  mode : FrameMode
  window : Option Window
  nextRow : Nat
  holdRun : Nat
  lastRow : Option (List RGB)
  shown : Option StreamId
  lostImage : Option (Fin 128)
deriving DecidableEq, Repr

/-- A Screen Assembler. -/
structure ScreenUnit where
  active : ScreenRecord
  shadow : ScreenRecord
  started : Bool
  timing : TimingMode
  counter : Byte
  period : Timer
  frame : Option FrameRec
deriving DecidableEq, Repr

/-- A Screen Assembler after the reset line (R37). -/
def ScreenUnit.reset (front : Bool) : ScreenUnit where
  active := ScreenRecord.reset front
  shadow := ScreenRecord.reset front
  started := false
  timing := .free
  counter := 0
  period := .stopped
  frame := none

/-! ### Vehicle Signal Unit (R38 to R50) -/

/-- The polarity of the reverse line (R38). -/
inductive Polarity where
  | activeHigh
  | activeLow
deriving DecidableEq, Repr

/-- What forms the reverse request (R38, R49). -/
inductive ReverseSource where
  | line
  | can
  | either
deriving DecidableEq, Repr

/-- The signal settings (R38). -/
structure SignalSettings where
  interval : Nat
  polarity : Polarity
  source : ReverseSource
  bitRate : Nat
deriving DecidableEq, Repr

/-- The defaults of R38. -/
def SignalSettings.reset : SignalSettings := ⟨5, .activeHigh, .line, 500⟩

/-- The reverse filter (section 3.2). -/
structure ReverseFilter where
  level : Level
  agree : Nat
  timer : Timer
  last : Level
deriving DecidableEq, Repr

/-- The filter at the release of the reset: sampling starts at 5 ms, 240 sample periods (R39, R51). -/
def ReverseFilter.reset : ReverseFilter := ⟨.released, 0, .running 240, .released⟩

/-- The byte order of a two-byte value (R42). -/
inductive ByteOrder where
  | msbFirst
  | lsbFirst
deriving DecidableEq, Repr

/-- An extraction entry (R42). -/
structure SignalEntry where
  extended : Bool
  ident : Nat
  startByte : Nat
  bitOffset : Nat
  length : Nat
  order : ByteOrder
  signed : Bool
  multiplier : Int
  shift : Nat
  offset : Int
  staleTimeout : Nat
deriving DecidableEq, Repr

/-- The state of a signal record (R45). -/
inductive SignalState where
  | never
  | fresh
  | stale
deriving DecidableEq, Repr

/-- A signal record (R45). -/
structure SignalRec where
  value : Int
  state : SignalState
  timer : Timer
  clamped : Bool
  changed : Bool
deriving DecidableEq, Repr

/-- The nearest-distance record (R48): FRESH or STALE, and its value in cm. -/
structure Nearest where
  value : Nat
  fresh : Bool
deriving DecidableEq, Repr

/-- STALE at 1000 (R48). -/
def Nearest.reset : Nearest := ⟨1000, false⟩

/-- A target's value at rest: 1000 cm for the distances, 0 for the others (R42). -/
def restValue : Target → Int
  | .dist0 => 1000
  | .dist1 => 1000
  | .dist2 => 1000
  | .dist3 => 1000
  | .steer => 0
  | .speed => 0
  | .reverse => 0

/-- A record set to NEVER with both flags clear (R45, R51). -/
def SignalRec.reset (t : Target) : SignalRec := ⟨restValue t, .never, .stopped, false, false⟩

/-- The Vehicle Signal Unit. -/
structure SignalUnit where
  settings : SignalSettings
  filter : ReverseFilter
  map : Tab (Option SignalEntry) 7
  records : Tab SignalRec 7
  nearest : Nearest
  request : Level
  shortFrames : Nat
deriving DecidableEq, Repr

/-- The unit after the reset line (R51). -/
def SignalUnit.reset : SignalUnit where
  settings := SignalSettings.reset
  filter := ReverseFilter.reset
  map := Tab.replicate 7 none
  records := ⟨Target.all.map SignalRec.reset, rfl⟩
  nearest := Nearest.reset
  request := .released
  shortFrames := 0

/-! ### Takeover Controller (R52, R54) -/

/-- The takeover settings (R52). Times are in ms, the linger time in units of 100 ms. -/
structure TakeoverSettings where
  entryDeadline : Nat
  exitDeadline : Nat
  cameraLoss : Nat
  lingerTime : Nat
  lingerSpeed : Nat
  manualSpeed : Nat
  discardFrames : Nat
  mirror : Bool
  lostImage : Option (Fin 128)
  entryChime : Option (Fin 16)
  attenuation : Nat
  width : Nat
  height : Nat
  format : PixelFormat
  capacity : Nat
  readyLevel : Nat
deriving DecidableEq, Repr

/-- The defaults of R52. -/
def TakeoverSettings.reset : TakeoverSettings where
  entryDeadline := 300
  exitDeadline := 500
  cameraLoss := 100
  lingerTime := 30
  lingerSpeed := 100
  manualSpeed := 150
  discardFrames := 1
  mirror := true
  lostImage := none
  entryChime := none
  attenuation := 8192
  width := 1280
  height := 720
  format := .ycbcr422
  capacity := 16
  readyLevel := 4

/-- The takeover state (R54). -/
inductive TakeoverState where
  | normal
  | switchingIn
  | showing
  | linger
  | switchingOut
deriving DecidableEq, Repr

/-- The Takeover Controller: settings (R52) and record (R54). The claim set is its two members. -/
structure TakeoverUnit where
  settings : TakeoverSettings
  started : Bool
  state : TakeoverState
  reverse : Bool
  manual : Bool
  presentation : Presentation
  entryTimer : Timer
  lingerTimer : Timer
  exitTimer : Timer
  exitDue : Bool
  reverseChanged : Bool
  manualChanged : Bool
  speedRemoved : Bool
deriving DecidableEq, Repr

/-- The controller after the reset line (R54, R72). -/
def TakeoverUnit.reset : TakeoverUnit where
  settings := TakeoverSettings.reset
  started := false
  state := .normal
  reverse := false
  manual := false
  presentation := .picture
  entryTimer := .stopped
  lingerTimer := .stopped
  exitTimer := .stopped
  exitDue := false
  reverseChanged := false
  manualChanged := false
  speedRemoved := false

/-! ### Guide Generator (R73, R79, R87) -/

/-- What is drawn when STEER is not FRESH (R73). -/
inductive StaleAction where
  | hide
  | straight
  | hold
deriving DecidableEq, Repr

/-- A vertex: window coordinates and the ground distance in cm (R73). -/
structure Vertex where
  x : Int
  y : Int
  d : Nat
deriving DecidableEq, Repr

/-- A written set of the guide table; its vertex count is the length of its tracks (R73). -/
structure GuideSet where
  key : Int
  left : List Vertex
  right : List Vertex
deriving DecidableEq, Repr

/-- A copy of the guide table (R73). A set never written, of vertex count 0, is `none`. -/
structure GuideTable where
  setCount : Nat
  vertices : Nat
  band1 : Nat
  band2 : Nat
  color0 : RGBA
  color1 : RGBA
  color2 : RGBA
  lineWidth : Nat
  staleAction : StaleAction
  obstacleCut : Bool
  sets : Tab (Option GuideSet) 17
deriving DecidableEq, Repr

/-- The reset values of R73. -/
def GuideTable.reset : GuideTable where
  setCount := 0
  vertices := 2
  band1 := 0
  band2 := 0
  color0 := ⟨0, 0, 0, 0⟩
  color1 := ⟨0, 0, 0, 0⟩
  color2 := ⟨0, 0, 0, 0⟩
  lineWidth := 1
  staleAction := .hide
  obstacleCut := false
  sets := Tab.replicate 17 none

/-- Where the steering of a guide frame came from (R79). -/
inductive GuideSource where
  | fresh
  | straight
  | hold
  | hidden
deriving DecidableEq, Repr

/-- The colour band of a segment (R82). -/
inductive Band where
  | c0
  | c1
  | c2
deriving DecidableEq, Repr

/-- A segment's entry of the result record: its band and whether it was cut (R87). -/
structure SegmentMark where
  band : Band
  cut : Bool
deriving DecidableEq, Repr

/-- The bracket index i and the weight w of R80. -/
structure Bracket where
  index : Nat
  weight : Nat
deriving DecidableEq, Repr

/-- The guide result record (R87). -/
structure GuideResult where
  frame : Byte
  source : GuideSource
  steering : Option Int
  clamped : Option Int
  bracket : Option Bracket
  cutDistance : Option Nat
  leftVertices : List Vertex
  rightVertices : List Vertex
  leftSegments : List SegmentMark
  rightSegments : List SegmentMark
  leftDrawn : Nat
  rightDrawn : Nat
deriving DecidableEq, Repr

/-- A painted pixel of the camera window: window row and column, colour with alpha (R86). -/
structure PaintCell where
  row : Nat
  col : Nat
  color : RGBA
deriving DecidableEq, Repr

/-- The Guide Generator. The paint map lists its pixels in rising row and column, each once. -/
structure GuideUnit where
  active : GuideTable
  shadow : GuideTable
  lastSteering : Option Int
  result : Option GuideResult
  paint : List PaintCell
deriving DecidableEq, Repr

/-- The generator after the reset line (R89). -/
def GuideUnit.reset : GuideUnit := ⟨GuideTable.reset, GuideTable.reset, none, none, []⟩

/-! ### Overlay Compositor and Image Store (R90 to R104) -/

/-- The index format of an image (R90). -/
inductive IndexFormat where
  | index8
  | index4
deriving DecidableEq, Repr

/-- The descriptor of a DEFINED image (R90). -/
structure ImageDesc where
  width : Nat
  height : Nat
  format : IndexFormat
  palette : Fin 4
  pages : List (Fin 2048)
deriving DecidableEq, Repr

/-- The four palettes of 256 entries (R97). -/
abbrev Palettes := Tab (Tab RGBA 256) 4

/-- Every entry 0, 0, 0, 0 (R97). -/
def Palettes.reset : Palettes := Tab.replicate 4 (Tab.replicate 256 ⟨0, 0, 0, 0⟩)

/-- The plane of an object (R99). -/
inductive Plane where
  | menu
  | notice
deriving DecidableEq, Repr

/-- A clip rectangle, inclusive (R99). -/
structure Clip where
  x0 : Nat
  y0 : Nat
  x1 : Nat
  y1 : Nat
deriving DecidableEq, Repr

/-- A blink: on frames and off frames (R99). -/
structure Blink where
  on : Nat
  off : Nat
deriving DecidableEq, Repr

/-- The fields of a USED object entry (R99). -/
structure ObjectFields where
  screen : ScreenId
  plane : Plane
  image : Fin 128
  x : Int
  y : Int
  depth : Nat
  alpha : Nat
  visible : Bool
  keep : Bool
  clip : Option Clip
  blink : Option Blink
deriving DecidableEq, Repr

/-- A copy of an entry in an active list (R100), with its blink counter when it blinks (R101). -/
structure ActiveCopy where
  entry : Fin 96
  fields : ObjectFields
  counter : Option Nat
deriving DecidableEq, Repr

/-- What the compositor keeps for one screen: active palettes, active list, span-overflow counter and
the per-frame flag (R97, R100, R104). -/
structure OverlayScreen where
  palettes : Palettes
  list : List ActiveCopy
  overflows : Nat
  raised : Bool
deriving DecidableEq, Repr

/-- The Overlay Compositor and Image Store. An UNDEFINED image and a FREE entry are `none`. -/
structure OverlayUnit where
  store : Memory
  freePages : List (Fin 2048)
  images : Tab (Option ImageDesc) 128
  shadowPalettes : Palettes
  objects : Tab (Option ObjectFields) 96
  screens : Tab OverlayScreen 3
deriving DecidableEq, Repr

/-- The unit after the reset line (R107). -/
def OverlayUnit.reset : OverlayUnit where
  store := []
  freePages := List.finRange 2048
  images := Tab.replicate 128 none
  shadowPalettes := Palettes.reset
  objects := Tab.replicate 96 none
  screens := Tab.replicate 3 ⟨Palettes.reset, [], 0, false⟩

/-! ### Sound Mixer (R109, R115, R120, R122) -/

/-- The state of a sound FIFO (R109). -/
inductive FifoState where
  | closed
  | priming
  | running
deriving DecidableEq, Repr

/-- A sound FIFO (R109); its fill is the number of frames held. -/
structure Fifo where
  state : FifoState
  frames : List StereoFrame
  startLevel : Nat
  highMark : Nat
  lowMark : Nat
  paused : Bool
  overruns : Nat
  underruns : Nat
  strays : Nat
deriving DecidableEq, Repr

/-- The fill of a FIFO (R109). -/
def Fifo.fill (f : Fifo) : Nat := f.frames.length

/-- The reset values of R109. -/
def Fifo.reset : Fifo := ⟨.closed, [], 256, 768, 256, false, 0, 0, 0⟩

/-- A value for each of the ten inputs into each of the eight outputs (R114). -/
abbrev Gains := Tab (Tab Nat 8) 10

/-- Every gain 0. -/
def Gains.zero : Gains := Tab.replicate 10 (Tab.replicate 8 0)

/-- A copy of the MIX group (R115). The duck zones are CABIN, SEAT-LEFT, SEAT-RIGHT in this order. -/
structure MixGroup where
  gains : Gains
  rampStep : Nat
  duckFactor : Nat
  duckZones : FlagSet 3
deriving DecidableEq, Repr

/-- The reset values of R115. -/
def MixGroup.reset : MixGroup := ⟨Gains.zero, 1024, 8192, (FlagSet.empty 3).insert 0⟩

/-- The Sound Mixer. `sawVoiceA`, `sawVoiceB`, `sawNormal` are the readings of the last block
boundary (R118, R123). -/
structure SoundUnit where
  fifos : Tab Fifo 4
  active : MixGroup
  shadow : MixGroup
  current : Gains
  targets : Gains
  sawVoiceA : Bool
  sawVoiceB : Bool
  sawNormal : Bool
  clip : FlagSet 8
deriving DecidableEq, Repr

/-- The mixer after the reset line (R124); the targets and readings before the first block boundary
are a DESIGN CHOICE (log 15). -/
def SoundUnit.reset : SoundUnit where
  fifos := Tab.replicate 4 Fifo.reset
  active := MixGroup.reset
  shadow := MixGroup.reset
  current := Gains.zero
  targets := Gains.zero
  sawVoiceA := false
  sawVoiceB := false
  sawNormal := true
  clip := FlagSet.empty 8

/-! ### Chime Sequencer (R125, R128, R130, R135) -/

/-- The shape of a tone (R125). -/
inductive Waveform where
  | sine
  | square
deriving DecidableEq, Repr

/-- A step of a pattern (R125). -/
structure ChimeStep where
  frequency : Nat
  waveform : Waveform
  level : Nat
  duration : Nat
  gap : Bool
deriving DecidableEq, Repr

/-- The content of a WRITTEN pattern (R125); its step count is the number of its steps. -/
structure Pattern where
  steps : List ChimeStep
  loopStart : Nat
  loopEnd : Nat
  repeats : Nat
  priority : Nat
  restart : Bool
deriving DecidableEq, Repr

/-- An instance context (R128). -/
structure Context where
  pattern : Fin 16
  step : Nat
  msLeft : Nat
  sampleInMs : Nat
  repeats : Nat
  phase : BitVec 32
  order : Nat
deriving DecidableEq, Repr

/-- A request of the pending queue (R130); its arrival position is its place in the list. -/
structure Request where
  pattern : Fin 16
  priority : Nat
  repeats : Nat
deriving DecidableEq, Repr

/-- An entry of the park rate table (R135). -/
structure ParkEntry where
  threshold : Nat
  gap : Nat
deriving DecidableEq, Repr

/-- The park rate table and the continuous distance (R135). -/
structure ParkRates where
  entries : List ParkEntry
  continuous : Nat
deriving DecidableEq, Repr

/-- The Chime Sequencer. Voice A is voice 0 and voice B voice 1; the queue is head first, the stack
bottom first; `starts` counts the instances started, saturating (R130). -/
structure ChimeUnit where
  patterns : Tab (Option Pattern) 16
  voices : Tab (Option Context) 2
  queue : List Request
  stack : List Context
  rates : ParkRates
  eligible : Bool
  judgedOn : Nearest
  starts : Nat
deriving DecidableEq, Repr

/-- The sequencer after the reset line (R138). -/
def ChimeUnit.reset : ChimeUnit where
  patterns := Tab.replicate 16 none
  voices := Tab.replicate 2 none
  queue := []
  stack := []
  rates := ⟨[], 0⟩
  eligible := false
  judgedOn := Nearest.reset
  starts := 0

/-! ### Table Store (R140, R141, R144) -/

/-- The seven shadowed groups, in R140's order. -/
inductive Group where
  | screenFront
  | screenRearLeft
  | screenRearRight
  | objects
  | palettes
  | guide
  | mix
deriving DecidableEq, Repr

/-- The place of a group in R140's order. -/
def Group.index : Group → Fin 7
  | .screenFront => 0
  | .screenRearLeft => 1
  | .screenRearRight => 2
  | .objects => 3
  | .palettes => 4
  | .guide => 5
  | .mix => 6

/-- The groups in R140's order. -/
def Group.all : List Group :=
  [.screenFront, .screenRearLeft, .screenRearRight, .objects, .palettes, .guide, .mix]

/-- An item of the pending set (R141); `screens` is absent but for OBJECTS and PALETTES. -/
structure Item where
  screens : Option (FlagSet 3)
  lastTag : Byte
  notifyTag : Option Byte
deriving DecidableEq, Repr

/-- How a group's last item left the pending set (R144). -/
inductive CommitOutcome where
  | none
  | applied
  | droppedInvalid
  | droppedReset
deriving DecidableEq, Repr

/-- A screen and the number of its frame (R144). -/
structure FrameRef where
  screen : ScreenId
  frame : Byte
deriving DecidableEq, Repr

/-- An outcome record (R144). -/
structure OutcomeRec where
  outcome : CommitOutcome
  tag : Option Byte
  frame : Option FrameRef
deriving DecidableEq, Repr

/-- NONE with no tag and no frame (R144). -/
def OutcomeRec.reset : OutcomeRec := ⟨.none, none, none⟩

/-- The Table Store. -/
structure TableStore where
  items : Tab (Option Item) 7
  outcomes : Tab OutcomeRec 7
deriving DecidableEq, Repr

/-- The store after the reset line (R148). -/
def TableStore.reset : TableStore := ⟨Tab.replicate 7 none, Tab.replicate 7 OutcomeRec.reset⟩

/-! ### Command Interpreter (R149, R153, R154, R156) -/

/-- The twelve attention causes, in the order of their priority (R154). -/
inductive Cause where
  | cameraLost
  | takeoverChange
  | startUpFault
  | saveDone
  | commandOverrun
  | commandRefused
  | streamFault
  | soundFault
  | clip
  | spanOverflow
  | chimeDropped
  | signalStale
deriving DecidableEq, Repr

/-- The place of a cause, its priority less 1 (R154). -/
def Cause.index : Cause → Fin 12
  | .cameraLost => 0
  | .takeoverChange => 1
  | .startUpFault => 2
  | .saveDone => 3
  | .commandOverrun => 4
  | .commandRefused => 5
  | .streamFault => 6
  | .soundFault => 7
  | .clip => 8
  | .spanOverflow => 9
  | .chimeDropped => 10
  | .signalStale => 11

/-- The detail of a pending cause (R154): a count of raisings, a set of members, or the most recent
tag and a count of raisings. -/
inductive Detail where
  | count (n : Nat)
  | members (set : FlagSet 16)
  | refused (tag : Byte) (n : Nat)
deriving DecidableEq, Repr

/-- The start-up state (R153). -/
inductive StartUp where
  | loading
  | ready
deriving DecidableEq, Repr

/-- The Command Interpreter. A clear cause record is `none`. -/
structure Interpreter where
  queue : List ControlPacket
  dropped : Nat
  startUp : StartUp
  causes : Tab (Option Detail) 12
  enabled : FlagSet 12
deriving DecidableEq, Repr

/-- The default enable set: CAMERA_LOST, TAKEOVER_CHANGE and START_UP_FAULT (R156). -/
def defaultEnables : FlagSet 12 := (((FlagSet.empty 12).insert 0).insert 1).insert 2

/-- The interpreter after the reset line (R149, R153, R154, R156). -/
def Interpreter.reset : Interpreter := ⟨[], 0, .loading, Tab.replicate 12 none, defaultEnables⟩

/-! ### Start-up Loader (R162, R166) -/

/-- The ten single kinds of settings record, in their fixed order (R162). -/
inductive SingleKind where
  | takeover
  | signals
  | screenFront
  | guide
  | palettes
  | patterns
  | parkRates
  | mix
  | screenRearLeft
  | screenRearRight
deriving DecidableEq, Repr

/-- The slot of a single kind in the record result set. -/
def SingleKind.index : SingleKind → Fin 10
  | .takeover => 0
  | .signals => 1
  | .screenFront => 2
  | .guide => 3
  | .palettes => 4
  | .patterns => 5
  | .parkRates => 6
  | .mix => 7
  | .screenRearLeft => 8
  | .screenRearRight => 9

/-- The place of a single kind among the eleven kinds: its code of R171 less 1 (IMAGE has place 5). -/
def SingleKind.place : SingleKind → Nat
  | .takeover => 0
  | .signals => 1
  | .screenFront => 2
  | .guide => 3
  | .palettes => 4
  | .patterns => 6
  | .parkRates => 7
  | .mix => 8
  | .screenRearLeft => 9
  | .screenRearRight => 10

/-- The single kinds in their fixed order (R162). -/
def SingleKind.all : List SingleKind :=
  [.takeover, .signals, .screenFront, .guide, .palettes, .patterns, .parkRates, .mix,
    .screenRearLeft, .screenRearRight]

/-- The load position (R162): HEADER, the place of the kind the walk expects next (5 for IMAGE, 11
once the last kind is past, log 14), or DONE. -/
inductive LoadPosition where
  | header
  | expecting (place : Nat)
  | done
deriving DecidableEq, Repr

/-- What the last loading did with a record (R162). -/
inductive RecordResult where
  | notRead
  | accepted
  | rejected
  | absent
deriving DecidableEq, Repr

/-- A record that SAVE SETTINGS writes (R166): a single kind, or image 120 + k. -/
inductive SaveItem where
  | single (k : SingleKind)
  | image (k : Fin 8)
deriving DecidableEq, Repr

/-- The step of SAVE SETTINGS under way (R162), with the bytes being written. -/
inductive SaveStep where
  | none
  | erase
  | header (bytes : List Byte)
  | record (item : SaveItem) (bytes : List Byte)
deriving DecidableEq, Repr

/-- The Start-up Loader. -/
structure Loader where
  position : LoadPosition
  recordsLeft : Nat
  readAddr : Nat
  singles : Tab RecordResult 10
  images : Tab RecordResult 8
  lastImage : Option Nat
  saveStep : SaveStep
  saveAddr : Nat
  saveTodo : List SaveItem
deriving DecidableEq, Repr

/-- The loader after the reset line (R162). R162 names no value for records left before a header has been read: it is 0
(log 14). -/
def Loader.reset : Loader where
  position := .header
  recordsLeft := 0
  readAddr := 0
  singles := Tab.replicate 10 .notRead
  images := Tab.replicate 8 .notRead
  lastImage := none
  saveStep := .none
  saveAddr := 0
  saveTodo := []

/-! ### Output ports -/

/-- A row sent on a display link (R33). -/
structure DisplayRow where
  row : Nat
  pixels : List RGB
deriving DecidableEq, Repr

/-- What the part's outputs last carried: a row on each display link, one sample on each TDM channel,
one frame on the back channel (log 25). -/
structure Ports where
  display : Tab (Option DisplayRow) 3
  tdm : Tab Word 8
  backFrame : Option (List Byte)
deriving DecidableEq, Repr

/-- Nothing sent since the reset; the audio port is silent (R114). -/
def Ports.reset : Ports := ⟨Tab.replicate 3 none, Tab.replicate 8 0, none⟩

/-! ### The whole state -/

/-- The state of the block. `flash` is the settings flash (R171), `freeCount` the model's own index of
free values (log 7), `pending` the commands that wait, first in first out (log 1). -/
structure State where
  link : LinkUnit
  cameraLocked : Bool
  streams : Tab StreamRec 8
  screens : Tab ScreenUnit 3
  signals : SignalUnit
  takeover : TakeoverUnit
  guide : GuideUnit
  overlay : OverlayUnit
  sound : SoundUnit
  chimes : ChimeUnit
  tables : TableStore
  interp : Interpreter
  loader : Loader
  flash : Memory
  ports : Ports
  freeCount : Nat
  pending : List Instr
deriving DecidableEq, Repr

/-- The machine right after the reset line, with an erased settings flash (DESIGN CHOICE, log 8), the
free-value counter at 0 (DESIGN CHOICE, log 7) and no command waiting. -/
def State.reset : State where
  link := LinkUnit.reset
  cameraLocked := false
  streams := Tab.replicate 8 StreamRec.reset
  screens := ⟨[ScreenUnit.reset true, ScreenUnit.reset false, ScreenUnit.reset false], rfl⟩
  signals := SignalUnit.reset
  takeover := TakeoverUnit.reset
  guide := GuideUnit.reset
  overlay := OverlayUnit.reset
  sound := SoundUnit.reset
  chimes := ChimeUnit.reset
  tables := TableStore.reset
  interp := Interpreter.reset
  loader := Loader.reset
  flash := []
  ports := Ports.reset
  freeCount := 0
  pending := []

end Sys2Proof.Machine
end

