-- ==== Sys2Proof/Machine/Ops.lean ====
section
/-! DEFINITION. Named operations over the state: counters, timers, bytes at addresses, one update for
each part of the state. -/

namespace Sys2Proof.Machine

open Sys2Proof

/-! ### Numbers -/

/-- One more, saturating at 65535 (00_scope.md, "Counters"). -/
def count16 (n : Nat) : Nat := min (n + 1) 65535

/-- A number clamped to a range (00_scope.md, "Arithmetic"). -/
def clampNat (lo hi n : Nat) : Nat := max lo (min hi n)

/-- An integer clamped to a range. -/
def clampInt (lo hi i : Int) : Int := max lo (min hi i)

/-- The ceiling of a quotient of numbers. -/
def ceilDiv (a b : Nat) : Nat := (a + b - 1) / b

/-! ### Timers (log 2) -/

/-- A timer just started to run for `ms` milliseconds, 48 sample periods each. -/
def Timer.startMs (ms : Nat) : Timer := .running (48 * ms)

/-- The period of a frame: 1000/30, 1000/50 or 1000/60 ms, in sample periods (R23). -/
def Timer.framePeriod (rate : Nat) : Timer := .running (48000 / rate)

/-- One sample period passes. -/
def Timer.tick : Timer → Timer
  | .stopped => .stopped
  | .running n => .running (n - 1)

/-- Whether the timer runs. -/
def Timer.isRunning : Timer → Bool
  | .stopped => false
  | .running _ => true

/-- Whether a running timer has reached its time: its expiry occurs (00_scope.md, "How time is told"; log 2). -/
def Timer.isDue : Timer → Bool
  | .stopped => false
  | .running n => n == 0

/-- Whether the time of the timer has passed, or it does not run. -/
def Timer.isDone : Timer → Bool
  | .stopped => true
  | .running n => n == 0

/-- The whole milliseconds left (R71; log 28). -/
def Timer.msLeft : Timer → Nat
  | .stopped => 0
  | .running n => n / 48

/-! ### Bytes at addresses

`dflt` is the byte that an address not listed reads as: 0 in the image store (log 9), 0xFF in the
settings flash (log 8). -/

/-- The byte at an address. -/
def Memory.read (dflt : Byte) : Memory → Nat → Byte
  | [], _ => dflt
  | (a, b) :: rest, addr => if a = addr then b else Memory.read dflt rest addr

/-- One byte written, keeping the canonical form. -/
def Memory.write (dflt : Byte) : Memory → Nat → Byte → Memory
  | [], addr, v => if v = dflt then [] else [(addr, v)]
  | (a, b) :: rest, addr, v =>
    if addr < a then (if v = dflt then (a, b) :: rest else (addr, v) :: (a, b) :: rest)
    else if addr = a then (if v = dflt then rest else (addr, v) :: rest)
    else (a, b) :: Memory.write dflt rest addr v

/-- Consecutive bytes written from an address on. -/
def Memory.writeBytes (dflt : Byte) : Memory → Nat → List Byte → Memory
  | m, _, [] => m
  | m, addr, b :: bs => Memory.writeBytes dflt (Memory.write dflt m addr b) (addr + 1) bs

/-- `n` consecutive bytes read from an address on. -/
def Memory.readBytes (dflt : Byte) (m : Memory) (addr n : Nat) : List Byte :=
  (List.range n).map fun i => Memory.read dflt m (addr + i)

/-- Every address of a range set to what an unlisted address reads as. -/
def Memory.clear (m : Memory) (addr n : Nat) : Memory :=
  m.filter fun c => !(decide (addr ≤ c.1) && decide (c.1 < addr + n))

/-- The canonical form: addresses strictly rising from `lo` on and below `size`, none listed with the
byte an unlisted address reads as. -/
def Memory.wfFrom (dflt : Byte) (size : Nat) : Nat → Memory → Bool
  | _, [] => true
  | lo, (a, b) :: rest =>
    decide (lo ≤ a) && decide (a < size) && b != dflt && Memory.wfFrom dflt size (a + 1) rest

/-- The canonical form of a memory of `size` bytes. -/
def Memory.wf (dflt : Byte) (size : Nat) (m : Memory) : Bool := Memory.wfFrom dflt size 0 m

/-- The size of the image store: 2,048 pages of 512 bytes (R90). -/
def storeSize : Nat := 2048 * 512

/-- The size of the settings flash: 512 KiB (chapter 11, opening). -/
def flashSize : Nat := 524288

/-- What an unlisted byte of the image store reads as (DESIGN CHOICE, log 9). -/
def storeDefault : Byte := 0

/-- What an unlisted byte of the flash reads as: an erased byte (log 8). -/
def flashDefault : Byte := 0xFF

/-! ### Updates of the parts of the state -/

namespace State

/-- The link unit replaced. -/
def setLink (s : State) (x : LinkUnit) : State := { s with link := x }
/-- The camera link lock set (R17). -/
def setCameraLocked (s : State) (x : Bool) : State := { s with cameraLocked := x }
/-- The stream table replaced. -/
def setStreams (s : State) (x : Tab StreamRec 8) : State := { s with streams := x }
/-- The screens replaced. -/
def setScreens (s : State) (x : Tab ScreenUnit 3) : State := { s with screens := x }
/-- The Vehicle Signal Unit replaced. -/
def setSignals (s : State) (x : SignalUnit) : State := { s with signals := x }
/-- The Takeover Controller replaced. -/
def setTakeover (s : State) (x : TakeoverUnit) : State := { s with takeover := x }
/-- The Guide Generator replaced. -/
def setGuide (s : State) (x : GuideUnit) : State := { s with guide := x }
/-- The Overlay Compositor and Image Store replaced. -/
def setOverlay (s : State) (x : OverlayUnit) : State := { s with overlay := x }
/-- The Sound Mixer replaced. -/
def setSound (s : State) (x : SoundUnit) : State := { s with sound := x }
/-- The Chime Sequencer replaced. -/
def setChimes (s : State) (x : ChimeUnit) : State := { s with chimes := x }
/-- The Table Store replaced. -/
def setTables (s : State) (x : TableStore) : State := { s with tables := x }
/-- The Command Interpreter replaced. -/
def setInterp (s : State) (x : Interpreter) : State := { s with interp := x }
/-- The Start-up Loader replaced. -/
def setLoader (s : State) (x : Loader) : State := { s with loader := x }
/-- The settings flash replaced. -/
def setFlash (s : State) (x : Memory) : State := { s with flash := x }
/-- The output ports replaced. -/
def setPorts (s : State) (x : Ports) : State := { s with ports := x }
/-- The index of free values replaced (log 7). -/
def setFreeCount (s : State) (x : Nat) : State := { s with freeCount := x }
/-- The queue of waiting commands replaced (log 1). -/
def setPending (s : State) (x : List Instr) : State := { s with pending := x }

/-- A stream record. -/
def stream (s : State) (k : StreamId) : StreamRec := s.streams.get k
/-- A stream record replaced. -/
def setStream (s : State) (k : StreamId) (r : StreamRec) : State := s.setStreams (s.streams.set k r)
/-- A Screen Assembler. -/
def screen (s : State) (k : ScreenId) : ScreenUnit := s.screens.get k
/-- A Screen Assembler replaced. -/
def setScreen (s : State) (k : ScreenId) (u : ScreenUnit) : State := s.setScreens (s.screens.set k u)
/-- A signal record. -/
def signal (s : State) (t : Target) : SignalRec := s.signals.records.get t.index
/-- A sound FIFO. -/
def fifo (s : State) (k : Fin 4) : Fifo := s.sound.fifos.get k

/-- Bytes written to the settings flash; what would lie past the end of the region does not exist there, and
R165 lets no save reach it (log 13). -/
def writeFlash (s : State) (addr : Nat) (bytes : List Byte) : State :=
  s.setFlash (s.flash.writeBytes flashDefault addr (bytes.take (flashSize - addr)))

/-- Whether a save is in flight: a step of SAVE SETTINGS is under way (R146, R162). -/
def saveInFlight (s : State) : Bool := s.loader.saveStep != .none

end State

/-- FRONT (00_scope.md, "Numbering"). -/
def front : ScreenId := 0

/-- The camera stream (00_scope.md, "Numbering"). -/
def camera : StreamId := 7

/-- The streams 0 to 6 of the cabin link, in rising order. -/
def cabinStreams : List StreamId := [0, 1, 2, 3, 4, 5, 6]

end Sys2Proof.Machine
end

