-- ==== Sys2Proof/Machine/Flags.lean ====
section
/-! DEFINITION. Attention causes (R154): every flag the part raises for the head unit. -/

namespace Sys2Proof.Machine

open Sys2Proof

/-- What a raising of a cause carries (R154): nothing but its occurrence, a member of a set, or a tag. -/
inductive Raising where
  | occurrence
  | member (k : Fin 16)
  | tag (t : Byte)
deriving DecidableEq, Repr

/-- The detail of a clear record that becomes pending (R154). -/
def Detail.first : Raising → Detail
  | .occurrence => .count 1
  | .member k => .members ((FlagSet.empty 16).insert k)
  | .tag t => .refused t 1

/-- The detail of a record that is pending already (R154). -/
def Detail.join : Detail → Raising → Detail
  | .count n, .occurrence => .count (count16 n)
  | .members set, .member k => .members (set.insert k)
  | .refused _ n, .tag t => .refused t (count16 n)
  | d, _ => d

/-- The record of a cause after a raising: it becomes or stays pending (R154). -/
def raiseRecord (old : Option Detail) (r : Raising) : Option Detail :=
  match old with
  | none => some (Detail.first r)
  | some d => some (d.join r)

/-- A cause raised: recorded when it is in the enable set, otherwise nothing (R154). -/
def State.raise (s : State) (c : Cause) (r : Raising) : State :=
  if s.interp.enabled.get c.index then
    s.setInterp { s.interp with
      causes := s.interp.causes.set c.index (raiseRecord (s.interp.causes.get c.index) r) }
  else s

/-- STREAM_FAULT raised for a stream. -/
def State.raiseStreamFault (s : State) (k : StreamId) : State :=
  s.raise .streamFault (.member (k.castLE (by decide)))

/-- CHIME_DROPPED raised for a pattern. -/
def State.raiseChimeDropped (s : State) (p : Fin 16) : State := s.raise .chimeDropped (.member p)

/-- START_UP_FAULT raised for a record kind, by its place in R171's list (log 13). -/
def State.raiseStartUpFault (s : State) (place : Fin 16) : State :=
  s.raise .startUpFault (.member place)

/-- The set of causes pending (R154). -/
def Interpreter.pendingSet (i : Interpreter) : FlagSet 12 := i.causes.map Option.isSome

/-- The attention line: asserted while one or more records are pending (R154). -/
def State.attentionLine (s : State) : Bool := s.interp.causes.toList.any Option.isSome

end Sys2Proof.Machine
end

