-- ==== Sys2Proof/Machine/Operands.lean ====
section
/-! DEFINITION. Every coding of parameters, reply data and record content (R169, logs 10 to 13): from
fields to values, with the range checks of the rules, and from values to fields. -/

namespace Sys2Proof.Machine

open Sys2Proof

/-! ### Checks -/

/-- A value, or the result that the first failing check gives. -/
abbrev Checked (α : Type) := Except Result α

/-- One check and the reply on its failure. -/
def ensure (ok : Bool) (r : Result) : Checked Unit := if ok then .ok () else .error r

/-- A value that must be present. -/
def orFail {α : Type} (o : Option α) (r : Result) : Checked α :=
  match o with
  | some x => .ok x
  | none => .error r

/-- Whether a number lies in a range. -/
def within (lo hi n : Nat) : Bool := decide (lo ≤ n) && decide (n ≤ hi)

/-- Whether an integer lies in a range. -/
def withinInt (lo hi i : Int) : Bool := decide (lo ≤ i) && decide (i ≤ hi)

/-! ### Single fields (R169) -/

/-- NONE and REMOVE. -/
def wordNone : Word := 0xFFFF#16

/-- A number as a field. -/
def numWord (n : Nat) : Word := BitVec.ofNat 16 n

/-- A signed number as a field. -/
def intWord (i : Int) : Word := BitVec.ofInt 16 i

/-- A flag as a field. -/
def flagWord (b : Bool) : Word := if b then 1#16 else 0#16

/-- A byte as a field. -/
def byteWord (b : Byte) : Word := b.setWidth 16

/-- A value wider than 16 bits as two fields, high half first. -/
def wideWords (n : Nat) : List Word := [numWord (n / 65536), numWord (n % 65536)]

/-- A named value as its place in the list of the names. -/
def choiceWord {α : Type} [DecidableEq α] (names : List α) (x : α) : Word := numWord (names.idxOf x)

/-- A set of numbered members: member k at bit k, from member `k` on. -/
def setBits : Nat → List Bool → Nat
  | _, [] => 0
  | k, b :: bs => (if b then 2 ^ k else 0) + setBits (k + 1) bs

/-- A set as a field. -/
def setWord {n : Nat} (s : FlagSet n) : Word := numWord (setBits 0 s.toList)

/-- A value or NONE. -/
def optWord (o : Option Nat) : Word :=
  match o with
  | some n => numWord n
  | none => wordNone

/-- The number read from two fields. -/
def wideNat (hi lo : Word) : Nat := hi.toNat * 65536 + lo.toNat

/-- A field that must number one of `n` things. -/
def numberOf (n : Nat) (w : Word) : Option (Fin n) := if h : w.toNat < n then some ⟨w.toNat, h⟩ else none

/-- A field that must be a flag. -/
def flagOf (w : Word) : Option Bool :=
  if w.toNat = 0 then some false else if w.toNat = 1 then some true else none

/-- A field that must be 0 to 255. -/
def byteOf (w : Word) : Option Byte := if w.toNat < 256 then some (w.setWidth 8) else none

/-- A field that must be a place in a list of names. -/
def choiceOf {α : Type} (names : List α) (w : Word) : Option α := names[w.toNat]?

/-- A field that must be a set of the members 0 to n - 1. -/
def setOf (n : Nat) (w : Word) : Option (FlagSet n) :=
  if w.toNat < 2 ^ n then some (Tab.ofFn fun k => w.getLsbD k.val) else none

/-- A field that must number one of `n` things or be NONE. -/
def numberOrNone (n : Nat) (w : Word) : Option (Option (Fin n)) :=
  if w = wordNone then some none else (numberOf n w).map some

/-! ### The lists of names, in the order the rules give them -/

def formats : List PixelFormat := [.rgb565, .ycbcr422]
def streamStates : List StreamState := [.closed, .priming, .running, .stalled, .parked]
def timings : List TimingMode := [.free, .locked]
def presentations : List Presentation := [.picture, .lost]
def polarities : List Polarity := [.activeHigh, .activeLow]
def reverseSources : List ReverseSource := [.line, .can, .either]
def byteOrders : List ByteOrder := [.msbFirst, .lsbFirst]
def signalStates : List SignalState := [.never, .fresh, .stale]
def levels : List Level := [.engaged, .released]
def takeoverStates : List TakeoverState := [.normal, .switchingIn, .showing, .linger, .switchingOut]
def staleActions : List StaleAction := [.hide, .straight, .hold]
def guideSources : List GuideSource := [.fresh, .straight, .hold, .hidden]
def bands : List Band := [.c0, .c1, .c2]
def indexFormats : List IndexFormat := [.index8, .index4]
def planes : List Plane := [.menu, .notice]
def fifoStates : List FifoState := [.closed, .priming, .running]
def waveforms : List Waveform := [.sine, .square]
def startUps : List StartUp := [.loading, .ready]
def recordResults : List RecordResult := [.notRead, .accepted, .rejected, .absent]
def commitOutcomes : List CommitOutcome := [.none, .applied, .droppedInvalid, .droppedReset]
def results : List Result :=
  [.ok, .started, .queued, .merged, .dropped, .reverseHeld, .notActive, .busy, .badCommand, .badLength,
    .badValue, .noRoom, .inUse, .notDefined, .reservedItem, .speedHigh, .invalidTable]

/-- A copy selector of a shadowed group. -/
inductive Selector where
  | active
  | shadow
deriving DecidableEq, Repr

/-- The selector's names where a rule names ACTIVE first (R22, R123, R145). -/
def selectors : List Selector := [.active, .shadow]

/-! ### Colours -/

/-- R, G, B as three fields. -/
def rgbWords (c : RGB) : List Word := [byteWord c.r, byteWord c.g, byteWord c.b]

/-- R, G, B, A as four fields. -/
def rgbaWords (c : RGBA) : List Word := [byteWord c.r, byteWord c.g, byteWord c.b, byteWord c.a]

/-- Three fields as a colour. -/
def rgbOf (r g b : Word) : Option RGB := do
  let r ← byteOf r
  let g ← byteOf g
  let b ← byteOf b
  return ⟨r, g, b⟩

/-- Four fields as a colour with alpha. -/
def rgbaOf (r g b a : Word) : Option RGBA := do
  let r ← byteOf r
  let g ← byteOf g
  let b ← byteOf b
  let a ← byteOf a
  return ⟨r, g, b, a⟩

/-! ### Stream parameters (R1, R4) -/

/-- The six parameters of a stream. -/
structure StreamParams where
  width : Nat
  height : Nat
  format : PixelFormat
  capacity : Nat
  readyLevel : Nat
  stallTimeout : Nat
deriving DecidableEq, Repr

/-- The third check of R4. -/
def StreamParams.valid (p : StreamParams) : Bool :=
  within 16 1920 p.width && within 16 1080 p.height && within 2 32 p.capacity &&
    within 1 p.capacity p.readyLevel && within 10 1000 p.stallTimeout &&
    (p.format != .ycbcr422 || p.width % 2 == 0)

/-- The six parameter fields of OPEN STREAM, checked (R4). -/
def streamParamsOf (w h f c r t : Word) : Option StreamParams := do
  let format ← choiceOf formats f
  let p : StreamParams := ⟨w.toNat, h.toNat, format, c.toNat, r.toNat, t.toNat⟩
  if p.valid then some p else none

/-! ### Screen records (R20, R21, R22) -/

/-- The thirteen record fields of a screen, the screen number apart. -/
def screenWords (r : ScreenRecord) : List Word :=
  [numWord r.width, numWord r.height, numWord r.rate, optWord (r.source.map Fin.val), numWord r.originX,
    numWord r.originY] ++ rgbWords r.fill ++
  [numWord r.holdLimit, numWord r.cameraX, numWord r.cameraY, flagWord r.guideEnable]

/-- The ranges of R20, with both origins inside the record's own size (R21). -/
def ScreenRecord.valid (r : ScreenRecord) : Bool :=
  within 320 1920 r.width && within 240 1080 r.height && [30, 50, 60].contains r.rate &&
    decide (r.originX < r.width) && decide (r.originY < r.height) && within 0 15 r.holdLimit &&
    decide (r.cameraX < r.width) && decide (r.cameraY < r.height)

/-- The record fields of WRITE SCREEN, checked: ranges, origins, and no stream 7 (R21). -/
def screenOf : List Word → Option ScreenRecord
  | [w, h, rate, src, ox, oy, r, g, b, hold, cx, cy, ge] => do
    let source ← numberOrNone 7 src
    let fill ← rgbOf r g b
    let guide ← flagOf ge
    let rec' : ScreenRecord :=
      { width := w.toNat, height := h.toNat, rate := rate.toNat,
        source := source.map (Fin.castLE (by decide)), originX := ox.toNat, originY := oy.toNat,
        fill := fill, holdLimit := hold.toNat, cameraX := cx.toNat, cameraY := cy.toNat,
        guideEnable := guide }
    if rec'.valid then some rec' else none
  | _ => none

/-- What is stored of a record: the last two fields exist on FRONT only (R20, R21). -/
def ScreenRecord.forScreen (k : ScreenId) (r : ScreenRecord) : ScreenRecord :=
  if k = front then r else { r with cameraX := 0, cameraY := 0, guideEnable := false }

/-! ### Signals (R38, R42, R50) -/

/-- The four signal settings as fields. -/
def signalSettingsWords (x : SignalSettings) : List Word :=
  [numWord x.interval, choiceWord polarities x.polarity, choiceWord reverseSources x.source,
    numWord x.bitRate]

/-- The four fields of WRITE SIGNAL SETTINGS, checked (R38). -/
def signalSettingsOf (i p r b : Word) : Option SignalSettings := do
  let polarity ← choiceOf polarities p
  let source ← choiceOf reverseSources r
  if [1, 2, 5, 10].contains i.toNat && [125, 250, 500, 1000].contains b.toNat then
    some ⟨i.toNat, polarity, source, b.toNat⟩
  else none

/-- Whether an entry reads two bytes (R42). -/
def SignalEntry.twoBytes (e : SignalEntry) : Bool := decide (8 < e.bitOffset + e.length)

/-- The data bytes an entry needs (R42). -/
def SignalEntry.bytesNeeded (e : SignalEntry) : Nat := e.startByte + if e.twoBytes then 2 else 1

/-- The second and third check of WRITE SIGNAL ENTRY (R42). -/
def SignalEntry.valid (e : SignalEntry) : Bool :=
  decide (e.ident < if e.extended then 2 ^ 29 else 2048) && within 0 7 e.startByte &&
    within 0 7 e.bitOffset && within 1 16 e.length && withinInt (-32768) 32767 e.multiplier &&
    within 0 15 e.shift && withinInt (-32768) 32767 e.offset && within 10 2000 e.staleTimeout &&
    decide (e.bitOffset + e.length ≤ 16) && (!e.twoBytes || decide (e.startByte ≤ 6))

/-- The twelve fields of an extraction entry. -/
def signalEntryWords (e : SignalEntry) : List Word :=
  [flagWord e.extended] ++ wideWords e.ident ++
  [numWord e.startByte, numWord e.bitOffset, numWord e.length, choiceWord byteOrders e.order,
    flagWord e.signed, intWord e.multiplier, numWord e.shift, intWord e.offset, numWord e.staleTimeout]

/-- The twelve fields of an extraction entry, checked (R42). -/
def signalEntryOf : List Word → Option SignalEntry
  | [ext, hi, lo, st, off, len, ord, sg, mul, sh, add, stale] => do
    let extended ← flagOf ext
    let order ← choiceOf byteOrders ord
    let signed ← flagOf sg
    let e : SignalEntry :=
      { extended := extended, ident := wideNat hi lo, startByte := st.toNat, bitOffset := off.toNat,
        length := len.toNat, order := order, signed := signed, multiplier := mul.toInt,
        shift := sh.toNat, offset := add.toInt, staleTimeout := stale.toNat }
    if e.valid then some e else none
  | _ => none

/-! ### Takeover settings (R52, R53) -/

/-- The sixteen takeover settings as fields. -/
def takeoverWords (t : TakeoverSettings) : List Word :=
  [numWord t.entryDeadline, numWord t.exitDeadline, numWord t.cameraLoss, numWord t.lingerTime,
    numWord t.lingerSpeed, numWord t.manualSpeed, numWord t.discardFrames, flagWord t.mirror,
    optWord (t.lostImage.map Fin.val), optWord (t.entryChime.map Fin.val), numWord t.attenuation,
    numWord t.width, numWord t.height, choiceWord formats t.format, numWord t.capacity,
    numWord t.readyLevel]

/-- The sixteen fields, the selectors checked in the order of R53 and the numbers clamped. The camera mirror is coded
as a flag, ON 1 and OFF 0 (log 11). The BUSY check is a check of state, made by the command. -/
def takeoverOf : List Word → Checked TakeoverSettings
  | [entry, exit, loss, lt, ls, ms, disc, mir, lost, chime, att, w, h, f, cap, ready] => do
    let format ← orFail (choiceOf formats f) .badValue
    let mirror ← orFail (flagOf mir) .badValue
    let lostImage ← orFail (numberOrNone 128 lost) .badValue
    ensure (chime.toNat != 15) .reservedItem
    let entryChime ← orFail (numberOrNone 16 chime) .badValue
    let capacity := clampNat 2 32 cap.toNat
    return {
      entryDeadline := clampNat 50 2000 entry.toNat
      exitDeadline := clampNat 50 2000 exit.toNat
      cameraLoss := clampNat 20 500 loss.toNat
      lingerTime := clampNat 0 300 lt.toNat
      lingerSpeed := clampNat 0 3000 ls.toNat
      manualSpeed := clampNat 0 3000 ms.toNat
      discardFrames := clampNat 0 3 disc.toNat
      mirror := mirror
      lostImage := lostImage
      entryChime := entryChime
      attenuation := clampNat 0 32768 att.toNat
      width := clampNat 16 1920 w.toNat
      height := clampNat 16 1080 h.toNat
      format := format
      capacity := capacity
      readyLevel := clampNat 1 capacity ready.toNat }
  | _ => .error .badLength

/-! ### Guide table (R73 to R75) -/

/-- The eight general fields of a guide table copy (R73). The obstacle cut is coded as a flag, ON 1 and OFF 0
(log 10). -/
def guideGeneralWords (g : GuideTable) : List Word :=
  [numWord g.setCount, numWord g.vertices, numWord g.band1, numWord g.band2] ++ rgbaWords g.color0 ++
  rgbaWords g.color1 ++ rgbaWords g.color2 ++
  [numWord g.lineWidth, choiceWord staleActions g.staleAction, flagWord g.obstacleCut]

/-- The eight general fields, checked by R73 and put in place of those of `old` (R74). The obstacle cut is coded as a
flag, ON 1 and OFF 0 (log 11). -/
def guideGeneralOf (old : GuideTable) : List Word → Option GuideTable
  | [n, m, b1, b2, r0, g0, l0, a0, r1, g1, l1, a1, r2, g2, l2, a2, w, st, cut] => do
    let c0 ← rgbaOf r0 g0 l0 a0
    let c1 ← rgbaOf r1 g1 l1 a1
    let c2 ← rgbaOf r2 g2 l2 a2
    let stale ← choiceOf staleActions st
    let obstacle ← flagOf cut
    if within 0 17 n.toNat && within 2 12 m.toNat && within 0 1000 b1.toNat && within 0 1000 b2.toNat &&
        within 1 8 w.toNat then
      some { old with
        setCount := n.toNat, vertices := m.toNat, band1 := b1.toNat, band2 := b2.toNat, color0 := c0,
        color1 := c1, color2 := c2, lineWidth := w.toNat, staleAction := stale, obstacleCut := obstacle }
    else none
  | _ => none

/-- A vertex as three fields. -/
def vertexWords (v : Vertex) : List Word := [intWord v.x, intWord v.y, numWord v.d]

/-- The ranges of a vertex (R73). -/
def Vertex.valid (v : Vertex) : Bool :=
  withinInt (-2048) 2047 v.x && withinInt (-2048) 2047 v.y && within 0 1000 v.d

/-- Vertices read three fields at a time. -/
def verticesOf : List Word → List Vertex
  | x :: y :: d :: rest => ⟨x.toInt, y.toInt, d.toNat⟩ :: verticesOf rest
  | _ => []

/-- The ranges of a set (R75, last check). -/
def GuideSet.valid (g : GuideSet) : Bool :=
  withinInt (-7800) 7800 g.key && g.left.all Vertex.valid && g.right.all Vertex.valid

/-- The vertex count of a set: 0 for one never written (R73). -/
def vertexCount : Option GuideSet → Nat
  | none => 0
  | some g => g.left.length

/-- The fields of a written set: key, vertex count, left track, right track. -/
def guideSetWords (g : GuideSet) : List Word :=
  [intWord g.key, numWord g.left.length] ++ g.left.flatMap vertexWords ++ g.right.flatMap vertexWords

/-- The key, the vertex count and both lists of a set at the front of the fields, with what follows
them: the length checks of R75. -/
def splitGuideSet : List Word → Checked (GuideSet × List Word)
  | key :: n :: rest => do
    ensure (within 2 12 n.toNat) .badValue
    let size := 3 * n.toNat
    ensure (decide (2 * size ≤ rest.length)) .badLength
    return (⟨key.toInt, verticesOf (rest.take size), verticesOf ((rest.drop size).take size)⟩,
      rest.drop (2 * size))
  | _ => .error .badLength

/-! ### Images, palettes and objects (R90, R97, R99) -/

/-- The fields of a descriptor given by DEFINE IMAGE: width, height, format, palette. -/
structure ImageShape where
  width : Nat
  height : Nat
  format : IndexFormat
  palette : Fin 4
deriving DecidableEq, Repr

/-- The four descriptor fields, checked (R90, R92). -/
def imageShapeOf (w h f p : Word) : Option ImageShape := do
  let format ← choiceOf indexFormats f
  let palette ← numberOf 4 p
  if within 1 1920 w.toNat && within 1 1080 h.toNat then some ⟨w.toNat, h.toNat, format, palette⟩
  else none

/-- Palette entries read four fields at a time, none where a component is above 255. -/
def entriesOf : List Word → Option (List RGBA)
  | [] => some []
  | r :: g :: b :: a :: rest => do
    let c ← rgbaOf r g b a
    let cs ← entriesOf rest
    return c :: cs
  | _ => none

/-- An optional part: a presence field, and its fields only when present. -/
def optionalWords (o : Option (List Word)) : List Word :=
  match o with
  | some ws => 1#16 :: ws
  | none => [0#16]

/-- The fields of an object entry (R99). -/
def objectWords (o : ObjectFields) : List Word :=
  [numWord o.screen.val, choiceWord planes o.plane, numWord o.image.val, intWord o.x, intWord o.y,
    numWord o.depth, numWord o.alpha, flagWord o.visible, flagWord o.keep] ++
  optionalWords (o.clip.map fun c => [numWord c.x0, numWord c.y0, numWord c.x1, numWord c.y1]) ++
  optionalWords (o.blink.map fun b => [numWord b.on, numWord b.off])

/-- An optional part of `n` fields at the front, with what follows it (log 11). -/
def splitOptional (n : Nat) : List Word → Checked (Option (List Word) × List Word)
  | p :: rest =>
    if p.toNat = 0 then .ok (none, rest)
    else if p.toNat = 1 then
      if n ≤ rest.length then .ok (some (rest.take n), rest.drop n) else .error .badLength
    else .error .badValue
  | [] => .error .badLength

/-- A clip rectangle from its four fields (R99). -/
def clipOf : List Word → Option Clip
  | [x0, y0, x1, y1] =>
    if within 0 1919 x0.toNat && within 0 1919 x1.toNat && within 0 1079 y0.toNat &&
        within 0 1079 y1.toNat && decide (x0.toNat ≤ x1.toNat) && decide (y0.toNat ≤ y1.toNat) then
      some ⟨x0.toNat, y0.toNat, x1.toNat, y1.toNat⟩
    else none
  | _ => none

/-- A blink from its two fields (R99). -/
def blinkOf : List Word → Option Blink
  | [on, off] =>
    if within 1 255 on.toNat && within 1 255 off.toNat then some ⟨on.toNat, off.toNat⟩ else none
  | _ => none

/-- An optional part that must be right when it is present. -/
def optionalOf {α : Type} (f : List Word → Option α) : Option (List Word) → Option (Option α)
  | none => some none
  | some ws => (f ws).map some

/-- The nine fixed fields and the optional parts of an object, checked (R99, second check). -/
def objectOf (fixed : List Word) (clip blink : Option (List Word)) : Option ObjectFields :=
  match fixed with
  | [sc, pl, im, x, y, dep, al, vis, keep] => do
    let screen ← numberOf 3 sc
    let plane ← choiceOf planes pl
    let image ← numberOf 128 im
    let visible ← flagOf vis
    let keepFlag ← flagOf keep
    let clip ← optionalOf clipOf clip
    let blink ← optionalOf blinkOf blink
    if withinInt (-1920) 1919 x.toInt && withinInt (-1080) 1079 y.toInt && within 0 15 dep.toNat &&
        within 0 255 al.toNat then
      some { screen := screen, plane := plane, image := image, x := x.toInt, y := y.toInt,
             depth := dep.toNat, alpha := al.toNat, visible := visible, keep := keepFlag, clip := clip,
             blink := blink }
    else none
  | _ => none

/-! ### Sound (R115 to R117) -/

/-- The zones set and the other two fields of WRITE DUCK, checked (R117). -/
def duckOf (g : MixGroup) (ramp duck zones : Word) : Option MixGroup := do
  let z ← setOf 3 zones
  if within 1 32768 ramp.toNat && within 0 32768 duck.toNat then
    some { g with rampStep := ramp.toNat, duckFactor := duck.toNat, duckZones := z }
  else none

/-- The 80 gains, input by input (log 13), without a count (log 10). -/
def gainsWords (g : Gains) : List Word := g.toList.flatMap fun row => row.toList.map numWord

/-- A copy of the MIX group as fields: 80 gains, ramp step, duck factor, duck zones. -/
def mixWords (g : MixGroup) : List Word :=
  gainsWords g.gains ++ [numWord g.rampStep, numWord g.duckFactor, setWord g.duckZones]

/-- A gain as written, clamped to unity (R116). -/
def gainOf (w : Word) : Nat := min w.toNat 32768

/-- The gain matrix whose gains stand in a list input by input, each clamped. -/
def gainsOf (ws : List Word) : Gains :=
  Tab.ofFn fun i => Tab.ofFn fun o => gainOf (ws.getD (8 * i.val + o.val) 0#16)

/-! ### Chimes (R125, R126, R128, R130, R135) -/

/-- A step as five fields. -/
def stepWords (x : ChimeStep) : List Word :=
  [numWord x.frequency, choiceWord waveforms x.waveform, numWord x.level, numWord x.duration,
    flagWord x.gap]

/-- The content of a pattern: step count, steps, loop start, loop end, repeats, priority, restart. -/
def patternWords (p : Pattern) : List Word :=
  [numWord p.steps.length] ++ p.steps.flatMap stepWords ++
  [numWord p.loopStart, numWord p.loopEnd, numWord p.repeats, numWord p.priority, flagWord p.restart]

/-- A frequency as stored: 0 kept, others clamped to 100 to 8000 (R126). -/
def clampFrequency (f : Nat) : Nat := if f = 0 then 0 else clampNat 100 8000 f

/-- Whether a frequency is clamped when it is stored. -/
def frequencyClamped (w : Word) : Bool := clampFrequency w.toNat != w.toNat

/-- Steps read five fields at a time, with the number of clamped frequencies. -/
def stepsOf : List Word → Option (List ChimeStep × Nat)
  | [] => some ([], 0)
  | f :: wf :: lv :: du :: gp :: rest => do
    let waveform ← choiceOf waveforms wf
    let gap ← flagOf gp
    let (steps, n) ← stepsOf rest
    if within 0 255 lv.toNat && within 1 2000 du.toNat then
      some (⟨clampFrequency f.toNat, waveform, lv.toNat, du.toNat, gap⟩ :: steps,
        if frequencyClamped f then n + 1 else n)
    else none
  | _ => none

/-- The content of a pattern cut from the front of the fields: the step fields, the five fields after
them, and what follows; the step count is 1 to 32 (R126, second check). -/
def splitPattern : List Word → Checked (List Word × List Word × List Word)
  | n :: rest => do
    let size := 5 * n.toNat
    ensure (within 1 32 n.toNat && decide (size + 5 ≤ rest.length)) .badLength
    return (rest.take size, (rest.drop size).take 5, rest.drop (size + 5))
  | [] => .error .badLength

/-- Whether at least one step of the loop region has its gap flag off (R126). -/
def Pattern.regionPlays (p : Pattern) : Bool :=
  ((p.steps.drop p.loopStart).take (p.loopEnd + 1 - p.loopStart)).any fun x => !x.gap

/-- The content of a pattern from its fields, with the number of clamped frequencies (R126, third and
fourth check). -/
def patternOf (number : Fin 16) (stepFields tail : List Word) : Option (Pattern × Nat) :=
  match tail with
  | [ls, le, rp, pr, rs] => do
    let restart ← flagOf rs
    let (steps, n) ← stepsOf stepFields
    let p : Pattern := ⟨steps, ls.toNat, le.toNat, rp.toNat, pr.toNat, restart⟩
    if within 0 255 rp.toNat && within 0 7 pr.toNat && decide (ls.toNat ≤ le.toNat) &&
        decide (le.toNat < steps.length) && (number != 15 || p.regionPlays) then
      some (p, n)
    else none
  | _ => none

/-- The fields of an instance context (R128). -/
def contextWords (c : Context) : List Word :=
  [numWord c.pattern.val, numWord c.step, numWord c.msLeft, numWord c.sampleInMs, numWord c.repeats] ++
  wideWords c.phase.toNat ++ [numWord c.order]

/-- A request of the pending queue as CHIME STATUS reports it (R134). -/
def requestWords (r : Request) : List Word :=
  [numWord r.pattern.val, numWord r.priority, numWord r.repeats]

/-- The park rate table as fields: count, entries, continuous distance (R135). -/
def parkWords (p : ParkRates) : List Word :=
  [numWord p.entries.length] ++ p.entries.flatMap (fun e => [numWord e.threshold, numWord e.gap]) ++
  [numWord p.continuous]

/-- Park entries read two fields at a time. -/
def parkEntriesOf : List Word → List ParkEntry
  | t :: g :: rest => ⟨t.toNat, g.toNat⟩ :: parkEntriesOf rest
  | _ => []

/-- Strictly rising thresholds. -/
def risingThresholds : List ParkEntry → Bool
  | a :: b :: rest => decide (a.threshold < b.threshold) && risingThresholds (b :: rest)
  | _ => true

/-- The park rate table from its fields, checked in the order of R135. -/
def parkOf : List Word → Checked ParkRates
  | n :: rest => do
    ensure (within 0 8 n.toNat && rest.length == 2 * n.toNat + 1) .badLength
    let entries := parkEntriesOf (rest.take (2 * n.toNat))
    let cont := (rest.getLastD 0#16).toNat
    ensure (entries.all (fun e => within 1 1000 e.threshold && within 0 2000 e.gap) &&
      within 0 1000 cont && risingThresholds entries) .badValue
    return ⟨entries, cont⟩
  | [] => .error .badLength

end Sys2Proof.Machine
end

