-- ==== Sys2Proof/Machine/Channel.lean ====
section
/-! DEFINITION. The back channel (R151, R158), the reception of frames (R170) and the execution of one
command of the command queue (R150 to R152). -/

namespace Sys2Proof.Machine

open Sys2Proof

/-! ### The back channel -/

/-- The back-channel output queue holds up to 64 packets (R158). -/
def backCapacity : Nat := 64

/-- A frame marker or a flow marker handed to the back channel: discarded while the link is not locked
or the queue is full (R28, R111, R158). -/
def State.handMarker (s : State) (p : BackPacket) : State :=
  if s.link.lock = .locked ∧ s.link.back.length < backCapacity then
    s.setLink { s.link with back := s.link.back ++ [p] }
  else s

/-- A reply handed to the back channel: discarded while the link is not locked (R157), and waiting
while the queue is full (R158). -/
def State.handReply (s : State) (r : Reply) : State :=
  if s.link.lock = .locked then
    if s.link.back.length < backCapacity then
      s.setLink { s.link with back := s.link.back ++ [.reply r] }
    else s.setLink { s.link with waiting := some r }
  else s

/-! ### Reception on the cabin link (R170) -/

/-- A good frame at the end of its reception: it returns the error counter to 0 and regains a lock lost
by declaration (log 5); none while the lock is lost by the receiver, when the frame is discarded. -/
def State.goodFrame (s : State) : Option State :=
  match s.link.lock with
  | .lostReceiver => none
  | .locked => some (s.setLink { s.link with errors := 0 })
  | .lostDeclared => some (s.setLink { s.link with lock := .locked, errors := 0 })

/-! ### The execution of a command -/

/-- What a command's own rule answers: the result, the data and the state it leaves. -/
structure Answer where
  result : Result
  data : List Word
  after : State

/-- An acceptance OK without data. -/
def okay (s : State) : Answer := ⟨.ok, [], s⟩

/-- An acceptance OK with data. -/
def okayWith (data : List Word) (s : State) : Answer := ⟨.ok, data, s⟩

/-- The own rule of a command: its parameters as fields, and the state without the command. -/
abbrev CommandRule := ControlPacket → List Word → State → Checked Answer

/-- Whether a result is a refusal (R151); REVERSE_HELD is one for RESET, code 41. -/
def Result.refuses (code : Nat) : Result → Bool
  | .ok => false
  | .started => false
  | .queued => false
  | .merged => false
  | .dropped => false
  | .reverseHeld => code == 41
  | .notActive => true
  | .busy => true
  | .badCommand => true
  | .badLength => true
  | .badValue => true
  | .noRoom => true
  | .inUse => true
  | .notDefined => true
  | .reservedItem => true
  | .speedHigh => true
  | .invalidTable => true

/-- The command whose execution begins next: the head of the queue, once the reply of the command
before it has joined the back channel (R149, R158). -/
def State.headCommand (s : State) : Option ControlPacket :=
  if s.link.waiting.isNone then s.interp.queue.head? else none

/-- The head of the command queue removed, when its execution begins (R149). -/
def State.popCommand (s : State) : State := s.setInterp { s.interp with queue := s.interp.queue.tail }

/-- The commands executed during LOADING: READ SIGNALS, TAKEOVER STATUS, QUERY ATTENTION, PART STATUS. -/
def loadingCodes : List Nat := [8, 12, 38, 40]

/-- The second and third check of R150, then the command's own rule; a refusal leaves the state and has
no data (R151). -/
def answerOf (rule : CommandRule) (p : ControlPacket) (s : State) : Answer :=
  if s.interp.startUp = .loading ∧ loadingCodes.contains p.code = false then ⟨.busy, [], s⟩
  else
    match wordsOfBytes p.params with
    | none => ⟨.badLength, [], s⟩
    | some ws =>
      match rule p ws s with
      | .ok a => a
      | .error r => ⟨r, [], s⟩

/-- COMMAND_REFUSED for a refusal whose packet carries the notify flag (R152). -/
def State.noteRefusal (s : State) (p : ControlPacket) (r : Result) : State :=
  if p.notify = true ∧ r.refuses p.code = true then s.raise .commandRefused (.tag p.tag) else s

/-- The end of an execution: the notification of a refusal and the one reply (R151, R152). -/
def conclude (p : ControlPacket) (a : Answer) : State :=
  (a.after.noteRefusal p a.result).handReply ⟨p.tag, p.code, a.result, a.data⟩

/-- One command executed whole: when the head of the queue is a command of the row, it is removed,
answered and concluded; otherwise the row's event has not occurred (logs 1, 3). -/
def runCommand (accepts : ControlPacket → Bool) (rule : CommandRule) (s : State) : State :=
  match s.headCommand with
  | some p => if accepts p then conclude p (answerOf rule p s.popCommand) else s
  | none => s

/-- The row's command by its code: its place in the command table, 1 to 41 (R169). -/
def codeIs (code : Nat) (p : ControlPacket) : Bool := p.code == code

/-- A command without parameters. -/
def noParameters (f : State → Checked Answer) : CommandRule := fun _ ws s =>
  match ws with
  | [] => f s
  | _ => .error .badLength

end Sys2Proof.Machine
end

