-- ==== Sys2Proof/Machine/Chimes.lean ====
section
/-! DEFINITION. The Chime Sequencer (chapter 8): tones, stepping, requests, preemption, the park tone, and
the commands on chimes. -/

namespace Sys2Proof.Machine

open Sys2Proof

/-! ### Tones (R127) -/

/-- Entries 0 to 64 of the sine table: ⌊32767 · sin(2πk/256) + 1/2⌋. -/
def sineQuarter : List Int :=
  [0, 804, 1608, 2410, 3212, 4011, 4808, 5602, 6393, 7179, 7962, 8739, 9512,
    10278, 11039, 11793, 12539, 13279, 14010, 14732, 15446, 16151, 16846, 17530, 18204, 18868,
    19519, 20159, 20787, 21403, 22005, 22594, 23170, 23731, 24279, 24811, 25329, 25832, 26319,
    26790, 27245, 27683, 28105, 28510, 28898, 29268, 29621, 29956, 30273, 30571, 30852, 31113,
    31356, 31580, 31785, 31971, 32137, 32285, 32412, 32521, 32609, 32678, 32728, 32757, 32767]

/-- Entry k of the sine table; the other three quarters by symmetry (log 29). -/
def sineEntry (k : Nat) : Int :=
  if k ≤ 64 then sineQuarter.getD k 0
  else if k ≤ 128 then sineQuarter.getD (128 - k) 0
  else if k ≤ 192 then -(sineQuarter.getD (k - 128) 0)
  else -(sineQuarter.getD (256 - k) 0)

/-- The wave value of a phase. -/
def waveValue (w : Waveform) (phase : BitVec 32) : Int :=
  match w with
  | .sine => sineEntry (phase.toNat / 2 ^ 24)
  | .square => if phase.toNat < 2 ^ 31 then 32767 else -32767

/-- The phase increment of a frequency. -/
def phaseIncrement (f : Nat) : BitVec 32 := BitVec.ofNat 32 ((2 * f * 2 ^ 32 + 48000) / 96000)

/-- The level as a factor of 0 to 256. -/
def levelFactor (level : Nat) : Nat := level + level / 128

/-- The sample of a step at a phase; a step of frequency 0 is silent. -/
def toneSample (x : ChimeStep) (phase : BitVec 32) : Int :=
  if x.frequency = 0 then 0 else waveValue x.waveform phase * (levelFactor x.level : Int) / 256

/-! ### Stepping (R128, R129, R137) -/

/-- The park tone (chapter 8, opening). -/
def parkTone : Fin 16 := 15

/-- The duration of a gap step entered at distance `d` (R137). While the tone is eligible an entry with a
threshold above `d` exists; without one the written duration stands (log 23). -/
def gapDuration (rates : ParkRates) (d written : Nat) : Nat :=
  if d < rates.continuous then 0
  else
    match rates.entries.find? fun e => decide (d < e.threshold) with
    | some e => e.gap
    | none => written

/-- The duration of a step when it is entered. -/
def stepDuration (rates : ParkRates) (d : Nat) (p : Fin 16) (x : ChimeStep) : Nat :=
  if p = parkTone ∧ x.gap = true then gapDuration rates d x.duration else x.duration

/-- The step that follows a finished step, with the repeats left; none when the instance is complete
(R129). -/
def Context.follow (pat : Pattern) (c : Context) : Option Context :=
  if c.step = pat.loopEnd ∧ 0 < c.repeats then
    some { c with step := pat.loopStart, repeats := if c.repeats = 255 then 255 else c.repeats - 1 }
  else if c.step + 1 < pat.steps.length then some { c with step := c.step + 1 }
  else none

/-- The step of a context entered, walking over steps of duration 0 in the same event (R128, R129). The
fuel is above the longest walk: one pass of the loop region, and the steps before and after it. -/
def Context.enter (rates : ParkRates) (d : Nat) (pat : Pattern) : Nat → Context → Option Context
  | 0, _ => none
  | fuel + 1, c =>
    match pat.steps[c.step]? with
    | none => none
    | some x =>
      let t := stepDuration rates d c.pattern x
      if t = 0 then
        match c.follow pat with
        | some c' => Context.enter rates d pat fuel c'
        | none => none
      else some { c with msLeft := t - 1, sampleInMs := 0, phase := 0 }

/-- Enough fuel for every walk (log 23). -/
def walkFuel : Nat := 100

/-- An instance started at step 0 (R128). -/
def startContext (rates : ParkRates) (d : Nat) (pat : Pattern) (p : Fin 16) (repeats order : Nat) :
    Option Context :=
  Context.enter rates d pat walkFuel ⟨p, 0, 0, 0, repeats, 0, order⟩

/-- The context after one sample instant; none when the instance is complete (R128, R129). -/
def Context.advance (rates : ParkRates) (d : Nat) (pat : Pattern) (x : ChimeStep) (c : Context) :
    Option Context :=
  let moved := { c with phase := c.phase + phaseIncrement x.frequency }
  if c.sampleInMs + 1 < 48 then some { moved with sampleInMs := c.sampleInMs + 1 }
  else if 0 < c.msLeft then some { moved with sampleInMs := 0, msLeft := c.msLeft - 1 }
  else
    match ({ moved with sampleInMs := 0 }).follow pat with
    | some c' => Context.enter rates d pat walkFuel c'
    | none => none

/-! ### Voices, queue and stack (R130, R132) -/

/-- The voice that holds an instance of a pattern. -/
def ChimeUnit.voiceOf (u : ChimeUnit) (p : Fin 16) : Option (Fin 2) :=
  [0, 1].find? fun v => (u.voices.get v).any fun c => c.pattern == p

/-- Whether a pattern is present (R130). -/
def ChimeUnit.present (u : ChimeUnit) (p : Fin 16) : Bool :=
  (u.voiceOf p).isSome || u.queue.any (fun r => r.pattern == p) || u.stack.any (fun c => c.pattern == p)

/-- The priority of a pattern; one that is present is WRITTEN (R130). -/
def ChimeUnit.priorityOf (u : ChimeUnit) (p : Fin 16) : Nat :=
  match u.patterns.get p with
  | some pat => pat.priority
  | none => 0

/-- Whether voice v is playing: it holds a context (R114, R130). -/
def ChimeUnit.playing (u : ChimeUnit) (v : Fin 2) : Bool := (u.voices.get v).isSome

/-- A pattern started at step 0 on a voice, with the next start order (R128, R130). -/
def ChimeUnit.startOn (u : ChimeUnit) (d : Nat) (v : Fin 2) (p : Fin 16) (repeats : Nat) : ChimeUnit :=
  match u.patterns.get p with
  | some pat =>
    let order := count16 u.starts
    { u with
      voices := u.voices.set v (startContext u.rates d pat p repeats order), starts := order }
  | none => u

/-- A request inserted in its place by priority and arrival (R130). -/
def insertRequest (r : Request) : List Request → List Request
  | [] => [r]
  | q :: qs => if q.priority < r.priority then r :: q :: qs else q :: insertRequest r qs

/-- A freed voice takes the stack top or the queue head, whichever has the higher priority (R132). -/
def ChimeUnit.takeNext (u : ChimeUnit) (d : Nat) (v : Fin 2) : ChimeUnit :=
  let freed := { u with voices := u.voices.set v none }
  match u.stack.getLast?, u.queue with
  | none, [] => freed
  | none, r :: rest => { freed with queue := rest }.startOn d v r.pattern r.repeats
  | some c, [] => { freed with stack := u.stack.dropLast, voices := u.voices.set v (some c) }
  | some c, r :: rest =>
    if u.priorityOf c.pattern < r.priority then
      { freed with queue := rest }.startOn d v r.pattern r.repeats
    else { freed with stack := u.stack.dropLast, voices := u.voices.set v (some c) }

/-- A pattern cut wherever it is present (R133). -/
def ChimeUnit.cut (u : ChimeUnit) (d : Nat) (p : Fin 16) : ChimeUnit :=
  let u' := { u with
    queue := u.queue.filter fun r => r.pattern != p
    stack := u.stack.filter fun c => c.pattern != p }
  match u.voiceOf p with
  | some v => u'.takeNext d v
  | none => u'

/-- FINISH: repeats left 0 wherever the pattern is present (R133). -/
def ChimeUnit.finish (u : ChimeUnit) (p : Fin 16) : ChimeUnit :=
  let ended (c : Context) : Context := if c.pattern = p then { c with repeats := 0 } else c
  { u with
    voices := u.voices.map fun o => o.map ended
    queue := u.queue.map fun r => if r.pattern = p then { r with repeats := 0 } else r
    stack := u.stack.map ended }

/-! ### Requests (R131) -/

/-- The stack holds up to 4 contexts and the queue up to 8 requests (R130). -/
def stackCapacity : Nat := 4
def requestCapacity : Nat := 8

/-- The voice whose instance a request of priority `pr` preempts: the lower priority, then the later start
order, then voice B; none where neither is lower than the request (R131, case 3). -/
def ChimeUnit.victim (u : ChimeUnit) (pr : Nat) : Option (Fin 2) :=
  match u.voices.get 0, u.voices.get 1 with
  | some a, some b =>
    let pa := u.priorityOf a.pattern
    let pb := u.priorityOf b.pattern
    if min pa pb < pr then
      if pa < pb then some 0
      else if pb < pa then some 1
      else if b.order < a.order then some 0
      else some 1
    else none
  | _, _ => none

/-- The context of a preempted voice pushed on the stack; a full stack loses its bottom, whose pattern is
dropped (R131, case 3). -/
def ChimeUnit.push (u : ChimeUnit) (v : Fin 2) : ChimeUnit × Option (Fin 16) :=
  match u.voices.get v with
  | none => (u, none)
  | some c =>
    if u.stack.length < stackCapacity then ({ u with stack := u.stack ++ [c] }, none)
    else ({ u with stack := u.stack.tail ++ [c] }, u.stack.head?.map Context.pattern)

/-- A pattern dropped, when there is one: CHIME_DROPPED (R131). -/
def State.dropChime (s : State) (o : Option (Fin 16)) : State :=
  match o with
  | some p => s.raiseChimeDropped p
  | none => s

/-- The nearest distance as it stands (R137). -/
def State.distance (s : State) : Nat := s.signals.nearest.value

/-- Case 1 of R131: a present pattern; its playing instance restarts when the restart flag is on. -/
def State.mergeChime (s : State) (p : Fin 16) (pat : Pattern) : State :=
  if pat.restart then
    match s.chimes.voiceOf p with
    | some v =>
      match s.chimes.voices.get v with
      | some c =>
        s.setChimes { s.chimes with
          voices := s.chimes.voices.set v
            (startContext s.chimes.rates s.distance pat p pat.repeats c.order) }
      | none => s
    | none => s
  else s

/-- Case 4 of R131: the request queued, and the last in order removed from a queue of more than 8. -/
def State.queueChime (s : State) (p : Fin 16) (pat : Pattern) : Result × State :=
  let q := insertRequest ⟨p, pat.priority, pat.repeats⟩ s.chimes.queue
  if q.length ≤ requestCapacity then (.queued, s.setChimes { s.chimes with queue := q })
  else
    let s' := s.setChimes { s.chimes with queue := q.dropLast }
    match q.getLast? with
    | some last => (if last.pattern = p then .dropped else .queued, s'.raiseChimeDropped last.pattern)
    | none => (.queued, s')

/-- A request handled by the first case of R131 that applies; NOT_DEFINED for an EMPTY pattern. -/
def State.requestChime (s : State) (p : Fin 16) : Result × State :=
  match s.chimes.patterns.get p with
  | none => (.notDefined, s)
  | some pat =>
    if s.chimes.present p then (.merged, s.mergeChime p pat)
    else if s.chimes.playing 0 = false then
      (.started, s.setChimes (s.chimes.startOn s.distance 0 p pat.repeats))
    else if s.chimes.playing 1 = false then
      (.started, s.setChimes (s.chimes.startOn s.distance 1 p pat.repeats))
    else
      match s.chimes.victim pat.priority with
      | some v =>
        let (u, dropped) := s.chimes.push v
        (.started, (s.setChimes (u.startOn s.distance v p pat.repeats)).dropChime dropped)
      | none => s.queueChime p pat

/-! ### The park tone (R136) -/

/-- Whether the park tone is eligible (R136). -/
def State.parkEligible (s : State) : Bool :=
  s.takeover.reverse && s.signals.nearest.fresh &&
    match s.chimes.rates.entries.getLast? with
    | some e => decide (s.signals.nearest.value < e.threshold)
    | none => false

/-- The eligibility judged again: pattern 15 is requested or cut when the result differs (R136). -/
def State.judgePark (s : State) : State :=
  let now := s.parkEligible
  let was := s.chimes.eligible
  let s := s.setChimes { s.chimes with eligible := now, judgedOn := s.signals.nearest }
  if now = was then s
  else if now then (s.requestChime parkTone).2
  else s.setChimes (s.chimes.cut s.distance parkTone)

/-! ### A voice at a sample instant (R127 to R129, R132) -/

/-- The sample a voice produces: 0 while it is free. -/
def ChimeUnit.sample (u : ChimeUnit) (v : Fin 2) : Int :=
  match u.voices.get v with
  | none => 0
  | some c =>
    match u.patterns.get c.pattern with
    | none => 0
    | some pat =>
      match pat.steps[c.step]? with
      | some x => toneSample x c.phase
      | none => 0

/-- The context of a voice advanced; a complete instance frees the voice, which takes its next. -/
def ChimeUnit.advance (u : ChimeUnit) (d : Nat) (v : Fin 2) : ChimeUnit :=
  match u.voices.get v with
  | none => u
  | some c =>
    match u.patterns.get c.pattern with
    | none => u.takeNext d v
    | some pat =>
      match pat.steps[c.step]? with
      | none => u.takeNext d v
      | some x =>
        match c.advance u.rates d pat x with
        | some c' => { u with voices := u.voices.set v (some c') }
        | none => u.takeNext d v

/-- Both voices advanced, voice A first (R132). -/
def ChimeUnit.advanceBoth (u : ChimeUnit) (d : Nat) : ChimeUnit := (u.advance d 0).advance d 1

/-! ### MEDIA reset (R139) -/

/-- The head unit's chimes removed and the park tone kept (R139). -/
def ChimeUnit.mediaReset (u : ChimeUnit) (d : Nat) : ChimeUnit :=
  let keep (o : Option Context) : Option Context := o.filter fun c => c.pattern == parkTone
  let cleared := { u with voices := u.voices.map keep, queue := [], stack := [] }
  match u.queue.find? fun r => r.pattern == parkTone with
  | some r => cleared.startOn d 0 parkTone r.repeats
  | none =>
    match u.stack.find? fun c => c.pattern == parkTone with
    | some c => { cleared with voices := cleared.voices.set 0 (some c) }
    | none => cleared

/-! ### Commands -/

/-- The own rule of WRITE PATTERN (R126). Fewer than the 7 fields of its form beside the steps are a wrong length,
whatever they hold (log 12). -/
def writePattern : CommandRule := fun _ ws s =>
  match ws with
  | nr :: content => do
    ensure (decide (6 ≤ content.length)) .badLength
    let p ← orFail (numberOf 16 nr) .badValue
    let (stepFields, tail, rest) ← splitPattern content
    ensure rest.isEmpty .badLength
    let (pat, clamped) ← orFail (patternOf p stepFields tail) .badValue
    ensure (!s.saveInFlight) .busy
    ensure (!s.chimes.present p) .inUse
    return okayWith [numWord clamped]
      (s.setChimes { s.chimes with patterns := s.chimes.patterns.set p (some pat) })
  | [] => .error .badLength

/-- The own rule of PLAY CHIME (R131). -/
def playChime : CommandRule := fun _ ws s =>
  match ws with
  | [nr] => do
    let p ← orFail (numberOf 16 nr) .badValue
    ensure (p != parkTone) .reservedItem
    ensure (s.chimes.patterns.get p).isSome .notDefined
    let (r, s') := s.requestChime p
    return ⟨r, [], s'⟩
  | _ => .error .badLength

/-- FINISH or CUT (R133). -/
inductive StopKind where
  | finish
  | cut
deriving DecidableEq, Repr

/-- The kinds of STOP CHIME in the order R133 names them. -/
def stopKinds : List StopKind := [.finish, .cut]

/-- The own rule of STOP CHIME (R133). -/
def stopChime : CommandRule := fun _ ws s =>
  match ws with
  | [nr, kd] => do
    let p ← orFail (numberOf 16 nr) .badValue
    let kind ← orFail (choiceOf stopKinds kd) .badValue
    ensure (p != parkTone) .reservedItem
    ensure (s.chimes.present p) .notActive
    return okay (s.setChimes
      (match kind with
      | .finish => s.chimes.finish p
      | .cut => s.chimes.cut s.distance p))
  | _ => .error .badLength

/-- The state of a pattern and, when WRITTEN, its content (R134): the state, EMPTY 0 or WRITTEN 1, is the presence field
of the content (log 10). -/
def patternReport (o : Option Pattern) : List Word := optionalWords (o.map patternWords)

/-- The nearest-distance record as fields: value, then FRESH or STALE (R48, log 12). -/
def nearestWords (n : Nearest) : List Word := [numWord n.value, flagWord (!n.fresh)]

/-- The data of CHIME STATUS (R134). Whether a voice holds a context is the presence field of its fields. The
pattern's part follows when a pattern number is asked for, with no presence field before it, since the request
announces it (log 10). -/
def ChimeUnit.report (u : ChimeUnit) (p : Option (Fin 16)) : List Word :=
  u.voices.toList.flatMap (fun o => optionalWords (o.map contextWords)) ++
  [numWord u.queue.length] ++ u.queue.flatMap requestWords ++
  [numWord u.stack.length] ++ u.stack.flatMap contextWords ++
  [flagWord u.eligible] ++ nearestWords u.judgedOn ++ parkWords u.rates ++
  (match p with
  | some p => patternReport (u.patterns.get p)
  | none => [])

/-- The own rule of CHIME STATUS (R134). -/
def chimeStatus : CommandRule := fun _ ws s =>
  match ws with
  | [nr] => do
    let p ← orFail (numberOrNone 16 nr) .badValue
    return okayWith (s.chimes.report p) s
  | _ => .error .badLength

/-- The own rule of WRITE PARK RATES (R135); eligibility is judged again (R136). -/
def writeParkRates : CommandRule := fun _ ws s => do
  ensure (decide (2 ≤ ws.length)) .badLength
  let rates ← parkOf ws
  ensure (!s.saveInFlight) .busy
  return okay (s.setChimes { s.chimes with rates := rates }).judgePark

/-- WRITE_PATTERN, command code 29. -/
def execWritePattern (s : State) : Host.Outcome State Fault Refusal :=
  .next (runCommand (codeIs 29) writePattern s)

/-- PLAY_CHIME, command code 30. -/
def execPlayChime (s : State) : Host.Outcome State Fault Refusal :=
  .next (runCommand (codeIs 30) playChime s)

/-- STOP_CHIME, command code 31. -/
def execStopChime (s : State) : Host.Outcome State Fault Refusal :=
  .next (runCommand (codeIs 31) stopChime s)

/-- CHIME_STATUS, command code 32. -/
def execChimeStatus (s : State) : Host.Outcome State Fault Refusal :=
  .next (runCommand (codeIs 32) chimeStatus s)

/-- WRITE_PARK_RATES, command code 33. -/
def execWriteParkRates (s : State) : Host.Outcome State Fault Refusal :=
  .next (runCommand (codeIs 33) writeParkRates s)

end Sys2Proof.Machine
end

