-- ==== Sys2Proof/Machine/Guide.lean ====
section
/-! DEFINITION. The Guide Generator (chapter 5): validation, steering, interpolation, segments,
rasterization, the result record, and the commands on the guide lines. -/

namespace Sys2Proof.Machine

open Sys2Proof

/-! ### Validation (R76) -/

/-- The sets 0 to n - 1 of a table. -/
def GuideTable.used (g : GuideTable) : List (Option GuideSet) := g.sets.toList.take g.setCount

/-- Keys strictly ascending; a set never written holds no key and ends the order. -/
def risingKeys : List (Option GuideSet) → Bool
  | some a :: some b :: rest => decide (a.key < b.key) && risingKeys (some b :: rest)
  | none :: _ :: _ => false
  | some _ :: none :: _ => false
  | _ => true

/-- The five checks of a guide table copy (R76). -/
def GuideTable.valid (g : GuideTable) : Bool :=
  within 0 17 g.setCount && within 2 12 g.vertices && decide (g.band1 ≤ g.band2) &&
    g.used.all (fun o => vertexCount o == g.vertices) && risingKeys g.used

/-! ### Steering (R79) -/

/-- The steering of a guide frame and its source: none with HIDDEN (R79). -/
def selectSteering (steer : SignalRec) (action : StaleAction) (last : Option Int) :
    GuideSource × Option Int :=
  if steer.state = .fresh then (.fresh, some steer.value)
  else
    match action, last with
    | .hide, _ => (.hidden, none)
    | .straight, _ => (.straight, some 0)
    | .hold, some s => (.hold, some s)
    | .hold, none => (.straight, some 0)

/-! ### Interpolation (R80, R81) -/

/-- The sets in use, written ones; a valid copy has no other below its set count. -/
def GuideTable.keyed (g : GuideTable) : List GuideSet := g.used.filterMap id

/-- The largest index from 0 to `n - 2` whose key is at most `s`; the keys of `sets` from index `i` on. -/
def bracketIndex (s : Int) : Nat → List GuideSet → Nat
  | i, _ :: b :: c :: rest => if b.key ≤ s then bracketIndex s (i + 1) (b :: c :: rest) else i
  | i, _ => i

/-- The steering clamped to the keys, and the bracket index with its weight (R80). -/
def bracketOf (sets : List GuideSet) (s : Int) : Int × Bracket :=
  match sets.head?, sets.getLast? with
  | some a, some z =>
    let s' := clampInt a.key z.key s
    let i := bracketIndex s' 0 sets
    match sets[i]?, sets[i + 1]? with
    | some x, some y => (s', ⟨i, ((s' - x.key) * 256 / (y.key - x.key)).toNat⟩)
    | _, _ => (s', ⟨0, 0⟩)
  | _, _ => (s, ⟨0, 0⟩)

/-- One coordinate between two sets (R81). -/
def interpolate (a b : Int) (w : Nat) : Int := a + ((b - a) * w + 128) / 256

/-- One vertex between two sets (R81). -/
def interpolateVertex (w : Nat) (a b : Vertex) : Vertex :=
  ⟨interpolate a.x b.x w, interpolate a.y b.y w, (interpolate a.d b.d w).toNat⟩

/-- The two tracks of a frame: left, right (R81). With one set every vertex is that set's. -/
def tracksOf (sets : List GuideSet) (b : Bracket) : List Vertex × List Vertex :=
  match sets[b.index]?, sets[b.index + 1]? with
  | some x, some y =>
    (List.zipWith (interpolateVertex b.weight) x.left y.left,
      List.zipWith (interpolateVertex b.weight) x.right y.right)
  | some x, none => (x.left, x.right)
  | none, _ => ([], [])

/-! ### Segments (R82, R83) -/

/-- The band of a nearer distance (R82). -/
def bandOf (g : GuideTable) (nearer : Nat) : Band :=
  if nearer < g.band1 then .c0 else if nearer < g.band2 then .c1 else .c2

/-- The colour of a band. -/
def GuideTable.color (g : GuideTable) : Band → RGBA
  | .c0 => g.color0
  | .c1 => g.color1
  | .c2 => g.color2

/-- The cut distance, when the obstacle cut acts (R83). -/
def cutDistanceOf (g : GuideTable) (n : Nearest) : Option Nat :=
  if g.obstacleCut = true ∧ n.fresh = true ∧ n.value < 1000 then some n.value else none

/-- The vertices of a track in pairs: its segments. -/
def segmentsOf : List Vertex → List (Vertex × Vertex)
  | a :: b :: rest => (a, b) :: segmentsOf (b :: rest)
  | _ => []

/-- A segment's band and whether it is cut (R82, R83). -/
def markOf (g : GuideTable) (cut : Option Nat) (seg : Vertex × Vertex) : SegmentMark :=
  let nearer := min seg.1.d seg.2.d
  ⟨bandOf g nearer, match cut with
    | some d => decide (d ≤ nearer)
    | none => false⟩

/-- The number of segments of a track that were not cut (R87). -/
def drawnCount (ms : List SegmentMark) : Nat := (ms.filter fun m => !m.cut).length

/-! ### Rasterization (R84 to R86) -/

/-- The centres of a segment (R84). -/
def centresOf (seg : Vertex × Vertex) : List (Int × Int) :=
  let dx := seg.2.x - seg.1.x
  let dy := seg.2.y - seg.1.y
  let steps := max dx.natAbs dy.natAbs
  if steps = 0 then [(seg.1.x, seg.1.y)]
  else
    let n : Int := (steps : Nat)
    (List.range (steps + 1)).map fun (i : Nat) =>
      let k : Int := (i : Nat)
      (seg.1.x + (2 * dx * k + n) / (2 * n), seg.1.y + (2 * dy * k + n) / (2 * n))

/-- Where the guide lines may be painted: the camera window, its origin and the screen's size (R85). -/
structure PaintArea where
  width : Nat
  height : Nat
  originX : Nat
  originY : Nat
  screenWidth : Nat
  screenHeight : Nat
deriving DecidableEq, Repr

/-- Whether a window pixel lies inside the window and the screen (R85). -/
def PaintArea.holds (a : PaintArea) (row col : Int) : Bool :=
  withinInt 0 (a.width - 1) col && withinInt 0 (a.height - 1) row &&
    decide (a.originX + col < a.screenWidth) && decide (a.originY + row < a.screenHeight)

/-- The pixels of the square of a centre that are painted (R85). -/
def squareOf (a : PaintArea) (w : Nat) (c : Int × Int) : List (Nat × Nat) :=
  let low : Int := ((w - 1) / 2 : Nat)
  (List.range w).flatMap fun (i : Nat) => (List.range w).filterMap fun (j : Nat) =>
    let row : Int := c.2 - low + (i : Nat)
    let col : Int := c.1 - low + (j : Nat)
    if a.holds row col then some (row.toNat, col.toNat) else none

/-- Whether a pixel comes before another in rising row and column. -/
def pixelBefore (r c r' c' : Nat) : Bool := decide (r < r') || (r == r' && decide (c < c'))

/-- A pixel painted: it replaces the colour stored there before (R86). -/
def paintPixel (row col : Nat) (color : RGBA) : List PaintCell → List PaintCell
  | [] => [⟨row, col, color⟩]
  | p :: ps =>
    if pixelBefore row col p.row p.col then ⟨row, col, color⟩ :: p :: ps
    else if row = p.row ∧ col = p.col then ⟨row, col, color⟩ :: ps
    else p :: paintPixel row col color ps

/-- A drawn segment painted, centre by centre (R86). -/
def paintSegment (a : PaintArea) (w : Nat) (color : RGBA) (seg : Vertex × Vertex)
    (m : List PaintCell) : List PaintCell :=
  (centresOf seg).foldl
    (fun m c => (squareOf a w c).foldl (fun m px => paintPixel px.1 px.2 color m) m) m

/-- The drawn segments of a track painted in order (R86). -/
def paintTrack (g : GuideTable) (a : PaintArea) (segs : List ((Vertex × Vertex) × SegmentMark))
    (m : List PaintCell) : List PaintCell :=
  segs.foldl
    (fun m x => if x.2.cut then m else paintSegment a g.lineWidth (g.color x.2.band) x.1 m) m

/-- The stored colour of a window pixel. -/
def paintAt (m : List PaintCell) (row col : Nat) : Option RGBA :=
  (m.find? fun p => p.row == row && p.col == col).map PaintCell.color

/-! ### The frame computation (R78, R87, R88) -/

/-- The HIDDEN form of the result record (R88). -/
def GuideResult.hidden (frame : Byte) : GuideResult where
  frame := frame
  source := .hidden
  steering := none
  clamped := none
  bracket := none
  cutDistance := none
  leftVertices := []
  rightVertices := []
  leftSegments := []
  rightSegments := []
  leftDrawn := 0
  rightDrawn := 0

/-- A guide frame with a steering: the result record, the paint map and the last steering used
(R80 to R88). -/
def GuideUnit.draw (u : GuideUnit) (frame : Byte) (source : GuideSource) (s : Int) (n : Nearest)
    (a : PaintArea) : GuideUnit :=
  let g := u.active
  let sets := g.keyed
  let (clamped, b) := bracketOf sets s
  let (left, right) := tracksOf sets b
  let cut := cutDistanceOf g n
  let leftSegs := segmentsOf left
  let rightSegs := segmentsOf right
  let leftMarks := leftSegs.map (markOf g cut)
  let rightMarks := rightSegs.map (markOf g cut)
  { u with
    lastSteering := some s
    paint := paintTrack g a (rightSegs.zip rightMarks) (paintTrack g a (leftSegs.zip leftMarks) [])
    result := some
      { frame := frame, source := source, steering := some s, clamped := some clamped,
        bracket := some b, cutDistance := cut, leftVertices := left, rightVertices := right,
        leftSegments := leftMarks, rightSegments := rightMarks,
        leftDrawn := drawnCount leftMarks, rightDrawn := drawnCount rightMarks } }

/-- Steps 2 to 4 of R78: the paint map emptied, and in a guide frame the computation. -/
def GuideUnit.frame (u : GuideUnit) (isGuideFrame : Bool) (frame : Byte) (steer : SignalRec)
    (n : Nearest) (a : PaintArea) : GuideUnit :=
  let cleared := { u with paint := [] }
  if isGuideFrame then
    match selectSteering steer u.active.staleAction u.lastSteering with
    | (source, some s) => cleared.draw frame source s n a
    | (_, none) => { cleared with result := some (GuideResult.hidden frame) }
  else cleared

/-! ### Commands -/

/-- The own rule of WRITE GUIDE SETTINGS (R74): eight general fields, nineteen words. -/
def writeGuideSettings : CommandRule := fun _ ws s => do
  ensure (ws.length == 19) .badLength
  let g ← orFail (guideGeneralOf s.guide.shadow ws) .badValue
  return okay (s.setGuide { s.guide with shadow := g })

/-- A set of the shadow copy replaced (R75). -/
def State.writeSet (s : State) (k : Fin 17) (g : GuideSet) : State :=
  s.setGuide { s.guide with
    shadow := { s.guide.shadow with sets := s.guide.shadow.sets.set k (some g) } }

/-- The own rule of WRITE GUIDE SET (R75). -/
def writeGuideSet : CommandRule := fun _ ws s =>
  match ws with
  | nr :: key :: n :: lists => do
    let k ← orFail (numberOf 17 nr) .badValue
    let (g, rest) ← splitGuideSet (key :: n :: lists)
    ensure rest.isEmpty .badLength
    ensure g.valid .badValue
    return okay (s.writeSet k g)
  | _ => .error .badLength

/-- A signed value or absent, as an optional part. -/
def optIntWords (o : Option Int) : List Word := optionalWords (o.map fun i => [intWord i])

/-- A list of vertices with its count. -/
def vertexListWords (vs : List Vertex) : List Word := numWord vs.length :: vs.flatMap vertexWords

/-- A list of segment entries with its count. -/
def segmentListWords (ms : List SegmentMark) : List Word :=
  numWord ms.length :: ms.flatMap fun m => [choiceWord bands m.band, flagWord m.cut]

/-- The fields of the result record (R87). -/
def GuideResult.words (r : GuideResult) : List Word :=
  [byteWord r.frame, choiceWord guideSources r.source] ++ optIntWords r.steering ++
  optIntWords r.clamped ++ optionalWords (r.bracket.map fun b => [numWord b.index, numWord b.weight]) ++
  [optWord r.cutDistance] ++ vertexListWords r.leftVertices ++ vertexListWords r.rightVertices ++
  segmentListWords r.leftSegments ++ segmentListWords r.rightSegments ++
  [numWord r.leftDrawn, numWord r.rightDrawn]

/-- The data of READ GUIDE RESULT: an empty flag, and otherwise the record (R88). The empty flag stands in place of a
presence field (log 10). -/
def guideReport (o : Option GuideResult) : List Word :=
  match o with
  | none => [flagWord true]
  | some r => flagWord false :: r.words

/-- The own rule of READ GUIDE RESULT (R88). -/
def readGuideResult : CommandRule := noParameters fun s =>
  .ok (okayWith (guideReport s.guide.result) s)

/-- WRITE_GUIDE_SETTINGS, command code 13. -/
def execWriteGuideSettings (s : State) : Host.Outcome State Fault Refusal :=
  .next (runCommand (codeIs 13) writeGuideSettings s)

/-- WRITE_GUIDE_SET, command code 14. -/
def execWriteGuideSet (s : State) : Host.Outcome State Fault Refusal :=
  .next (runCommand (codeIs 14) writeGuideSet s)

/-- READ_GUIDE_RESULT, command code 15. -/
def execReadGuideResult (s : State) : Host.Outcome State Fault Refusal :=
  .next (runCommand (codeIs 15) readGuideResult s)

end Sys2Proof.Machine
end

