-- ==== Sys2Proof/Machine/Interp.lean ====
section
/-! DEFINITION. The Command Interpreter (chapter 10): the command queue, unknown commands, attention and
part status. -/

namespace Sys2Proof.Machine

open Sys2Proof

/-- The command queue holds up to 8 packets (R149). -/
def commandCapacity : Nat := 8

/-- A CONTROL packet at the interpreter (R149). -/
def State.takeControlPacket (s : State) (p : ControlPacket) : State :=
  if s.interp.queue.length < commandCapacity then
    s.setInterp { s.interp with queue := s.interp.queue ++ [p] }
  else
    (s.setInterp { s.interp with dropped := count16 s.interp.dropped }).raise .commandOverrun .occurrence

/-- CONTROL_PACKET (R149, R170). -/
def execControlPacket (frame : List Byte) (s : State) : Host.Outcome State Fault Refusal :=
  .next <|
    match controlOf frame with
    | none => s
    | some p =>
      match s.goodFrame with
      | some s' => s'.takeControlPacket p
      | none => s

/-- Whether a command is none of section 10.3 (R150, R169). -/
def isUnknown (p : ControlPacket) : Bool := !within 1 41 p.code

/-- UNKNOWN_COMMAND: the first check of R150 comes before the others, so the reply is BAD_COMMAND also
during LOADING. -/
def execUnknownCommand (s : State) : Host.Outcome State Fault Refusal :=
  .next <|
    match s.headCommand with
    | some p => if isUnknown p then conclude p ⟨.badCommand, [], s.popCommand⟩ else s
    | none => s

/-! ### Attention (R155, R156) -/

/-- The causes in the order of their priority (R154). -/
def allCauses : List Cause :=
  [.cameraLost, .takeoverChange, .startUpFault, .saveDone, .commandOverrun, .commandRefused,
    .streamFault, .soundFault, .clip, .spanOverflow, .chimeDropped, .signalStale]

/-- The pending cause of the highest priority. -/
def Interpreter.firstPending (i : Interpreter) : Option Cause :=
  allCauses.find? fun c => (i.causes.get c.index).isSome

/-- A detail as fields: a count; a set; or the most recent tag and a count (R154). -/
def detailWords : Detail → List Word
  | .count n => [numWord n]
  | .members set => [setWord set]
  | .refused t n => [byteWord t, numWord n]

/-- The detail fields of a cause record. -/
def recordWords (o : Option Detail) : List Word :=
  match o with
  | some d => detailWords d
  | none => []

/-- The own rule of QUERY ATTENTION (R155). The fields of the detail follow the cause that announces them; with NONE
there are none (log 10). -/
def queryAttention : CommandRule := noParameters fun s =>
  match s.interp.firstPending with
  | none => .ok (okayWith [wordNone, 0#16] s)
  | some c =>
    let i := { s.interp with causes := s.interp.causes.set c.index none }
    .ok (okayWith ([numWord c.index.val] ++ recordWords (s.interp.causes.get c.index) ++
      [setWord i.pendingSet]) (s.setInterp i))

/-- The cause records that an enable set leaves: those it leaves out are cleared (R156). -/
def keepEnabled (enabled : FlagSet 12) (causes : Tab (Option Detail) 12) : Tab (Option Detail) 12 :=
  Tab.ofFn fun c => if enabled.get c then causes.get c else none

/-- The own rule of WRITE ATTENTION ENABLES (R156). -/
def writeAttentionEnables : CommandRule := fun _ ws s =>
  match ws with
  | [set] => do
    let enabled ← orFail (setOf 12 set) .badValue
    let i := { s.interp with enabled := enabled, causes := keepEnabled enabled s.interp.causes }
    return okayWith [setWord i.pendingSet] (s.setInterp i)
  | _ => .error .badLength

/-! ### Part status (R159) -/

/-- The part code and the revision number (R159). -/
def partWords : List Word := [0x0212#16, 1#16]

/-- The data of PART STATUS (R159). The record results are one choice field for each single kind and then for each
image, without a count (log 10). -/
def State.partReport (s : State) : List Word :=
  partWords ++ [choiceWord startUps s.interp.startUp] ++
  s.loader.singles.toList.map (choiceWord recordResults) ++
  s.loader.images.toList.map (choiceWord recordResults) ++
  [flagWord s.saveInFlight, numWord s.interp.dropped, setWord s.interp.enabled,
    setWord s.interp.pendingSet]

/-- The own rule of PART STATUS (R159). -/
def partStatus : CommandRule := noParameters fun s => .ok (okayWith s.partReport s)

/-- QUERY_ATTENTION, command code 38. -/
def execQueryAttention (s : State) : Host.Outcome State Fault Refusal :=
  .next (runCommand (codeIs 38) queryAttention s)

/-- WRITE_ATTENTION_ENABLES, command code 39. -/
def execWriteAttentionEnables (s : State) : Host.Outcome State Fault Refusal :=
  .next (runCommand (codeIs 39) writeAttentionEnables s)

/-- PART_STATUS, command code 40. -/
def execPartStatus (s : State) : Host.Outcome State Fault Refusal :=
  .next (runCommand (codeIs 40) partStatus s)

end Sys2Proof.Machine
end

