-- ==== Sys2Proof/Machine/Streams.lean ====
section
/-! DEFINITION. The Stream Manager (chapter 1): segments, line completion, stalls, parking, the camera
stream, and the commands on streams. -/

namespace Sys2Proof.Machine

open Sys2Proof

/-! ### Line memory (R2) -/

/-- There are 128 line slots (R2). -/
def lineSlots : Nat := 128

/-- The slots a stream reserves: its capacity unless it is CLOSED (R2). -/
def StreamRec.slots (r : StreamRec) : Nat := if r.state = .closed then 0 else r.capacity

/-- The slots reserved by all streams. -/
def State.slotsReserved (s : State) : Nat := (s.streams.toList.map StreamRec.slots).sum

/-- The slots reserved by the streams 0 to 6. -/
def State.cabinSlots (s : State) : Nat := (cabinStreams.map fun k => (s.stream k).slots).sum

/-! ### What a change of stream 7 does to the takeover (R66, R67) -/

/-- FRONT's timing mode set by the Takeover Controller (R24). -/
def State.setFrontTiming (s : State) (m : TimingMode) : State :=
  s.setScreen front { s.screen front with timing := m }

/-- Stream 7 enters RUNNING: the controller's action is part of the LINE_PACKET that promotes it (R67,
95_what_each_step_holds.md), so no FREE frame start falls between the two (log 34). -/
def State.cameraEntersRunning (s : State) : State :=
  match s.takeover.state with
  | .normal => s
  | .switchingIn => s
  | .showing => s.setFrontTiming .locked
  | .linger => s.setFrontTiming .locked
  | .switchingOut => if s.takeover.exitDue then s else s.setFrontTiming .locked

/-- Stream 7 leaves RUNNING (R66). -/
def State.cameraLeavesRunning (s : State) : State :=
  match s.takeover.state with
  | .normal => s
  | .switchingIn => s
  | .showing => (s.raise .cameraLost .occurrence).setFrontTiming .free
  | .linger => (s.raise .cameraLost .occurrence).setFrontTiming .free
  | .switchingOut => (s.raise .cameraLost .occurrence).setFrontTiming .free

/-! ### What an entry into RUNNING does to a frame in progress (R30) -/

/-- A TAKING frame made FILL when its source is the stream that enters RUNNING. -/
def FrameRec.turnFor (j : StreamId) (f : FrameRec) : FrameRec :=
  if f.source = some j ∧ f.mode = .taking then { f with mode := .fill } else f

/-- A stream enters RUNNING: a TAKING frame of it has lost its source since its frame start, where the source was
RUNNING, so the frame is FILL to its end and does not take the lines now primed (R30). -/
def State.turnFrames (s : State) (j : StreamId) : State :=
  s.setScreens (s.screens.map fun u => { u with frame := u.frame.map (FrameRec.turnFor j) })

/-! ### The queue of a stream (R3, R9, R11) -/

/-- Whether the queue head is a line 0. -/
def StreamRec.headIsStart (r : StreamRec) : Bool :=
  match r.queue with
  | e :: _ => e.frameStart
  | [] => false

/-- Entries removed from the head, without counting, up to the first line 0 (R9, R27). -/
def StreamRec.trim (r : StreamRec) : StreamRec :=
  { r with queue := r.queue.dropWhile fun e => !e.frameStart }

/-- Whether the queue has room for one more line. -/
def StreamRec.hasRoom (r : StreamRec) : Bool := decide (r.queue.length < r.capacity)

/-- A line appended at the tail. -/
def StreamRec.append (r : StreamRec) (e : QueueEntry) : StreamRec := { r with queue := r.queue ++ [e] }

/-- An arriving line dropped at a full queue, counted as an overrun (R11). -/
def StreamRec.overrun (r : StreamRec) : StreamRec := { r with overruns := count16 r.overruns }

/-- The promotion test (R9, step 4): RUNNING with the stall timer started. -/
def StreamRec.promote (timeout : Nat) (r : StreamRec) : StreamRec :=
  if r.headIsStart ∧ r.readyLevel ≤ r.queue.length then
    { r with state := .running, stallTimer := Timer.startMs timeout }
  else r

/-- The second trim of R9: a head that is not line 0 is removed. -/
def StreamRec.secondTrim (r : StreamRec) : StreamRec :=
  if r.headIsStart then r else { r with queue := r.queue.tail }

/-- A completed line on a PRIMING stream (R9); the flag says whether STREAM_FAULT is raised. -/
def StreamRec.completePriming (timeout : Nat) (e : QueueEntry) (r : StreamRec) : StreamRec × Bool :=
  let trimmed := r.trim
  if trimmed.hasRoom then ((trimmed.append e).secondTrim.promote timeout, false)
  else (trimmed.overrun.secondTrim.promote timeout, true)

/-- A completed line on a RUNNING stream (R10, R11). -/
def StreamRec.completeRunning (timeout : Nat) (e : QueueEntry) (r : StreamRec) : StreamRec × Bool :=
  let timed := { r with stallTimer := Timer.startMs timeout }
  if timed.hasRoom then (timed.append e, false)
  else if e.frameStart && !timed.queue.any QueueEntry.frameStart then ({ timed with queue := [e] }, false)
  else (timed.overrun, true)

/-- A completed line on a PARKED stream: a full queue rolls forward, losing its head (R11, R12). -/
def StreamRec.completeParked (e : QueueEntry) (r : StreamRec) : StreamRec :=
  if r.hasRoom then r.append e else { r with queue := (r.queue ++ [e]).tail }

/-- Entry into STALLED, with the queue kept (R13, R15). -/
def StreamRec.stall (r : StreamRec) : StreamRec :=
  { r with state := .stalled, stallTimer := .stopped, stalls := count16 r.stalls }

/-- A completed line handled by the stream's state (R9 to R12): a STALLED stream first becomes PRIMING. -/
def StreamRec.complete (timeout : Nat) (e : QueueEntry) (r : StreamRec) : StreamRec × Bool :=
  match r.state with
  | .closed => (r, false)
  | .priming => r.completePriming timeout e
  | .running => r.completeRunning timeout e
  | .stalled => ({ r with state := .priming }).completePriming timeout e
  | .parked => (r.completeParked e, false)

/-- Whether a completed line of stream 7 is discarded, and the starts to skip after it (R18). -/
def skipAfter (skip : Nat) (e : QueueEntry) : Nat := if e.frameStart then skip - 1 else skip

/-- A stream that a completed line returns from STALLED to PRIMING (R10). -/
def StreamRec.wake (r : StreamRec) : StreamRec :=
  if r.state = .stalled then { r with state := .priming } else r

/-- The stall timeout in force: the camera loss timeout for stream 7 (R13). -/
def State.stallTimeoutOf (s : State) (k : StreamId) : Nat :=
  if k = camera then s.takeover.settings.cameraLoss else (s.stream k).stallTimeout

/-- A stream enters RUNNING: frames that lost it stay FILL (R30), and stream 7 is handed to the controller
(R67). -/
def State.entersRunning (s : State) (k : StreamId) : State :=
  let s := s.turnFrames k
  if k = camera then s.cameraEntersRunning else s

/-- A completed line of a stream handled by its state, with the causes and an entry into RUNNING, in one event
(log 34). -/
def State.handleLine (s : State) (k : StreamId) (e : QueueEntry) : State :=
  let old := s.stream k
  let (r, fault) := old.complete (s.stallTimeoutOf k) e
  let s := s.setStream k r
  let s := if fault then s.raiseStreamFault k else s
  if old.state ≠ .running ∧ r.state = .running then s.entersRunning k else s

/-- A line completes on a stream: the camera frame discard of R18 first, for stream 7. -/
def State.completeLine (s : State) (k : StreamId) (e : QueueEntry) : State :=
  let r := s.stream k
  if k = camera ∧ 0 < r.startsToSkip then
    let left := skipAfter r.startsToSkip e
    let s := s.setStream k { r.wake with startsToSkip := left }
    if 0 < left then s else s.handleLine k e
  else s.handleLine k e

/-! ### Segment assembly (R8) -/

/-- A line in assembly abandoned and counted; nothing where there is none. -/
def StreamRec.abandon (r : StreamRec) : StreamRec :=
  match r.assembly with
  | some _ => { r with assembly := none, incompletes := count16 r.incompletes }
  | none => r

/-- Pixels now held by the line in assembly; the line is complete once it holds width pixels, and
pixels beyond the width are ignored. -/
def StreamRec.hold (r : StreamRec) (line : Nat) (pixels : List Word) : StreamRec × Option QueueEntry :=
  if r.width ≤ pixels.length then ({ r with assembly := none }, some ⟨line, pixels.take r.width⟩)
  else ({ r with assembly := some ⟨line, pixels⟩ }, none)

/-- The four cases of R8 for one segment. -/
def StreamRec.takeSegment (r : StreamRec) (p : LinePacket) : StreamRec × Option QueueEntry :=
  if r.height ≤ p.line then (r.abandon, none)
  else if p.first = 0 then r.abandon.hold p.line p.pixels
  else
    match r.assembly with
    | some a =>
      if p.line = a.line ∧ p.first = a.pixels.length then r.hold p.line (a.pixels ++ p.pixels)
      else (r.abandon, none)
    | none => (r, none)

/-- A stray packet counted on a stream (R7). -/
def State.countStray (s : State) (k : StreamId) : State :=
  s.setStream k { s.stream k with strays := count16 (s.stream k).strays }

/-- The stream a stray of R7 is counted on, or none where the segment can be taken. -/
def State.strayOn (s : State) (link : LinkId) (p : LinePacket) : Option StreamId :=
  match link with
  | .cabin => if p.stream = camera ∨ (s.stream p.stream).state = .closed then some p.stream else none
  | .camera => if p.stream ≠ camera ∨ (s.stream camera).state = .closed then some camera else none

/-- A LINE packet at the Stream Manager (R7, R8). -/
def State.takeLinePacket (s : State) (link : LinkId) (p : LinePacket) : State :=
  match s.strayOn link p with
  | some k => s.countStray k
  | none =>
    let (r, done) := (s.stream p.stream).takeSegment p
    let s := s.setStream p.stream r
    match done with
    | some e => s.completeLine p.stream e
    | none => s

/-! ### Closing, parking and link losses -/

/-- The effects of a close (R5), also of the first half of a reopening (R16). -/
def StreamRec.close (r : StreamRec) : StreamRec :=
  { r with state := .closed, queue := [], assembly := none, stallTimer := .stopped }

/-- A park request (R14). -/
def StreamRec.park (r : StreamRec) : StreamRec :=
  match r.state with
  | .closed => r
  | .parked => r
  | .priming => { r with state := .parked, stallTimer := .stopped }
  | .running => { r with state := .parked, stallTimer := .stopped }
  | .stalled => { r with state := .parked, stallTimer := .stopped }

/-- An unpark request, with its promotion test and no trim (R14). -/
def StreamRec.unpark (r : StreamRec) : StreamRec :=
  match r.state with
  | .parked => ({ r with state := .priming }).promote r.stallTimeout
  | _ => r

/-- A park request for a source, when it is a stream. -/
def State.parkSource (s : State) : Option StreamId → State
  | none => s
  | some k => s.setStream k (s.stream k).park

/-- An unpark request for a source, when it is a stream; a promotion by it is an entry into RUNNING (R14, R30). -/
def State.unparkSource (s : State) : Option StreamId → State
  | none => s
  | some k =>
    let old := s.stream k
    let r := old.unpark
    let s := s.setStream k r
    if old.state ≠ .running ∧ r.state = .running then s.turnFrames k else s

/-- FRONT's active normal source. -/
def State.frontSource (s : State) : Option StreamId := (s.screen front).active.source

/-- One stream of 0 to 6 at the loss of cabin link lock (R15). -/
def State.loseCabinStream (s : State) (k : StreamId) : State :=
  let r := (s.stream k).abandon
  if r.state = .priming ∨ r.state = .running then (s.setStream k r.stall).raiseStreamFault k
  else s.setStream k r

/-- Stream 7 at a camera link unlock (R17), with the loss handed to the Takeover Controller when the
stream left RUNNING (R66). -/
def State.loseCamera (s : State) : State :=
  let old := s.stream camera
  let r := old.abandon
  match old.state with
  | .priming => (s.setStream camera { r.stall with queue := [] }).raiseStreamFault camera
  | .running =>
    ((s.setStream camera { r.stall with queue := [] }).raiseStreamFault camera).cameraLeavesRunning
  | .stalled => s.setStream camera { r with queue := [] }
  | .closed => s.setStream camera r
  | .parked => s.setStream camera r

/-! ### The opening of stream 7 (R16, R18) -/

/-- Starts to skip as they are loaded: discard frames + 1 (R18). -/
def State.skipLoad (s : State) : Nat := s.takeover.settings.discardFrames + 1

/-- The width stream 7 is opened with (R16). -/
def cameraWidth (t : TakeoverSettings) : Nat :=
  if t.format = .ycbcr422 ∧ t.width % 2 = 1 then t.width - 1 else t.width

/-- Stream 7 as an opening leaves it; `r` is its closed record (R16, R18). R16 gives no value for the record's stall
timeout, which stream 7 does not use (R1, R13): it is left as it stands, at the reset's 10 ms (log 35). -/
def State.openedCamera (s : State) (r : StreamRec) : StreamRec :=
  let t := s.takeover.settings
  let granted := min t.capacity (lineSlots - s.cabinSlots)
  { r with
    state := .priming, width := cameraWidth t, height := t.height, format := t.format,
    capacity := granted, readyLevel := min t.readyLevel granted, queue := [], assembly := none,
    stallTimer := .stopped, startsToSkip := s.skipLoad }

/-- The first opening of stream 7, at the start of the controller: its counters are set to 0 (R16). -/
def State.openCamera (s : State) : State :=
  s.setStream camera (s.openedCamera
    { (s.stream camera).close with overruns := 0, underruns := 0, incompletes := 0, stalls := 0, strays := 0 })

/-- A reopening of stream 7, with the loss handed to the controller when it left RUNNING (R16, R66). -/
def State.reopenCamera (s : State) : State :=
  let old := s.stream camera
  let s := s.setStream camera (s.openedCamera old.close)
  if old.state = .running then s.cameraLeavesRunning else s

/-! ### Events -/

/-- LINE_PACKET (R7). A frame ends its reception by R170 on the cabin link; no frame arrives on the camera
link while it is UNLOCKED (R17, log 6). -/
def execLinePacket (link : LinkId) (frame : List Byte) (s : State) : Host.Outcome State Fault Refusal :=
  .next <|
    match lineOf frame with
    | none => s
    | some p =>
      match link with
      | .cabin =>
        match s.goodFrame with
        | some s' => s'.takeLinePacket .cabin p
        | none => s
      | .camera => if s.cameraLocked then s.takeLinePacket .camera p else s

/-- STALL_TIMER_EXPIRY (R13): a RUNNING stream whose stall timer runs becomes STALLED; stream 7 leaves
RUNNING by it (R66). -/
def execStallTimerExpiry (k : StreamId) (s : State) : Host.Outcome State Fault Refusal :=
  .next <|
    let r := s.stream k
    if r.state = .running ∧ r.stallTimer.isDue then
      let s := (s.setStream k r.stall).raiseStreamFault k
      if k = camera then s.cameraLeavesRunning else s
    else s

/-- CAMERA_LINK_LOCK (R17, R18): starts to skip is loaded. -/
def execCameraLinkLock (s : State) : Host.Outcome State Fault Refusal :=
  .next <|
    if s.cameraLocked then s
    else (s.setStream camera { s.stream camera with startsToSkip := s.skipLoad }).setCameraLocked true

/-- CAMERA_LINK_UNLOCK (R17). -/
def execCameraLinkUnlock (s : State) : Host.Outcome State Fault Refusal :=
  .next <| if s.cameraLocked then s.loseCamera.setCameraLocked false else s

/-! ### Commands -/

/-- Whether the stream must open into PARKED: FRONT's active normal source while the camera is shown or
called up (R4, R14). -/
def State.opensParked (s : State) (k : StreamId) : Bool :=
  s.frontSource == some k &&
    (s.takeover.state == .switchingIn || s.takeover.state == .showing || s.takeover.state == .linger)

/-- A stream as OPEN STREAM leaves it (R4). -/
def StreamRec.opened (r : StreamRec) (p : StreamParams) (parked : Bool) : StreamRec :=
  { r with
    state := if parked then .parked else .priming, width := p.width, height := p.height,
    format := p.format, capacity := p.capacity, readyLevel := p.readyLevel,
    stallTimeout := p.stallTimeout, queue := [], assembly := none, stallTimer := .stopped,
    overruns := 0, underruns := 0, incompletes := 0, stalls := 0, strays := 0 }

/-- The own rule of OPEN STREAM (R4). -/
def openStream : CommandRule := fun _ ws s =>
  match ws with
  | [st, w, h, f, c, r, t] => do
    let k ← orFail (numberOf 8 st) .badValue
    ensure (k != camera) .reservedItem
    let p ← orFail (streamParamsOf w h f c r t) .badValue
    ensure ((s.stream k).state == .closed) .inUse
    ensure (decide (s.slotsReserved + p.capacity ≤ lineSlots)) .noRoom
    return okay (s.setStream k ((s.stream k).opened p (s.opensParked k)))
  | _ => .error .badLength

/-- A stream closed when it is not CLOSED (R5). -/
def State.closeStream (s : State) (k : StreamId) : State :=
  if (s.stream k).state = .closed then s else s.setStream k (s.stream k).close

/-- The own rule of CLOSE STREAM (R5). -/
def closeStream : CommandRule := fun _ ws s =>
  match ws with
  | [st] => do
    let k ← orFail (numberOf 8 st) .badValue
    ensure (k != camera) .reservedItem
    return okay (s.closeStream k)
  | _ => .error .badLength

/-- The line in assembly as STREAM STATUS reports it (R6): whether there is one is the presence field (log 10). -/
def assemblyWords (a : Option Assembly) : List Word :=
  optionalWords (a.map fun a => [numWord a.line, numWord a.pixels.length])

/-- The data of STREAM STATUS (R6). The camera link lock is coded LOCKED 0 and UNLOCKED 1. It and the starts to skip
follow for stream 7 alone, with no presence field before them, since the stream asked for announces them (log 10). -/
def State.streamReport (s : State) (k : StreamId) : List Word :=
  let r := s.stream k
  [choiceWord streamStates r.state, numWord r.width, numWord r.height, choiceWord formats r.format,
    numWord r.capacity, numWord r.readyLevel, numWord (s.stallTimeoutOf k), numWord r.queue.length] ++
  assemblyWords r.assembly ++
  [numWord r.overruns, numWord r.underruns, numWord r.incompletes, numWord r.stalls, numWord r.strays] ++
  (if k = camera then [flagWord (!s.cameraLocked), numWord r.startsToSkip] else [])

/-- The five counters of a stream set to 0. -/
def StreamRec.clearCounters (r : StreamRec) : StreamRec :=
  { r with overruns := 0, underruns := 0, incompletes := 0, stalls := 0, strays := 0 }

/-- The own rule of STREAM STATUS (R6). -/
def streamStatus : CommandRule := fun _ ws s =>
  match ws with
  | [st, cl] => do
    let k ← orFail (numberOf 8 st) .badValue
    let clear ← orFail (flagOf cl) .badValue
    return okayWith (s.streamReport k)
      (if clear then s.setStream k (s.stream k).clearCounters else s)
  | _ => .error .badLength

/-- OPEN_STREAM, command code 1. -/
def execOpenStream (s : State) : Host.Outcome State Fault Refusal :=
  .next (runCommand (codeIs 1) openStream s)

/-- CLOSE_STREAM, command code 2. -/
def execCloseStream (s : State) : Host.Outcome State Fault Refusal :=
  .next (runCommand (codeIs 2) closeStream s)

/-- STREAM_STATUS, command code 3. -/
def execStreamStatus (s : State) : Host.Outcome State Fault Refusal :=
  .next (runCommand (codeIs 3) streamStatus s)

end Sys2Proof.Machine
end

