-- ==== Sys2Proof/Machine/Link.lean ====
section
/-! DEFINITION. The events of the Link Interface (R157, R158, R168 to R170): lock, loss, bad frames, and the
sending of the back channel. -/

namespace Sys2Proof.Machine

open Sys2Proof

/-! ### Loss of cabin link lock -/

/-- The output queue and a waiting reply discarded (R157, R158). -/
def State.discardBack (s : State) : State := s.setLink { s.link with back := [], waiting := none }

/-- The effects of a loss of cabin link lock (R15, R157). -/
def State.loseCabinLink (s : State) : State := (cabinStreams.foldl State.loseCabinStream s).discardBack

/-- The error counter reaches its limit at 32 (R170). -/
def errorLimit : Nat := 32

/-- A bad frame counted; the thirty-second declares the loss of lock (R170). -/
def State.countBadFrame (s : State) : State :=
  if s.link.errors + 1 < errorLimit then s.setLink { s.link with errors := s.link.errors + 1 }
  else
    let s := s.loseCabinLink
    s.setLink { s.link with lock := .lostDeclared, errors := 0 }

/-- MALFORMED_FRAME (R170). On the camera link a bad frame is dropped with no count; on the cabin link no
frame is received while the receiver has lost lock (log 4). -/
def execMalformedFrame (link : LinkId) (frame : List Byte) (s : State) :
    Host.Outcome State Fault Refusal :=
  .next <|
    match link with
    | .camera => s
    | .cabin =>
      if badOn .cabin frame = true ∧ s.link.lock ≠ .lostReceiver then s.countBadFrame else s

/-- CABIN_LINK_LOCK_ACQUIRED, reported by the receiver (R170): a lock lost by the receiver is regained; nothing is
resent and stream states are unchanged (R15, R157). A lock lost by declaration is regained at the next good frame
(`State.goodFrame`), and a report leaves it lost. -/
def execCabinLinkLockAcquired (s : State) : Host.Outcome State Fault Refusal :=
  .next <| if s.link.lock = .lostReceiver then s.setLink { s.link with lock := .locked } else s

/-- CABIN_LINK_LOSS, reported by the receiver (R15, R157, R170). A report while the lock is lost by declaration has
the effects of a loss again (log 4). -/
def execCabinLinkLoss (s : State) : Host.Outcome State Fault Refusal :=
  .next <|
    if s.link.lock = .lostReceiver then s
    else
      let s := s.loseCabinLink
      s.setLink { s.link with lock := .lostReceiver }

/-! ### Back-channel frames (R168, R169) -/

/-- The place of a result in R151's table. -/
def resultCode (r : Result) : Byte := BitVec.ofNat 8 (results.idxOf r)

/-- The source shown in a frame marker: a stream, or 255 for NONE (R169). -/
def shownByte (o : Option StreamId) : Byte :=
  match o with
  | some k => BitVec.ofNat 8 k.val
  | none => 255#8

/-- PAUSE or RESUME as a byte (R169). -/
def flowByte : FlowKind → Byte
  | .pause => 0#8
  | .resume => 1#8

/-- The frame of a back-channel packet, with its check (R168, R169). -/
def BackPacket.frame : BackPacket → List Byte
  | .reply r =>
    frameOf 129#8 ([r.tag] ++ bytesOfWord (numWord r.code) ++ [resultCode r.result] ++
      bytesOfWords r.data)
  | .frameMarker k o n => frameOf 130#8 [BitVec.ofNat 8 k.val, shownByte o, n]
  | .flowMarker k f => frameOf 131#8 [BitVec.ofNat 8 k.val, flowByte f]

/-- BACK_CHANNEL_PACKET_SENT (R158): the head leaves the queue; its frame has gone out (log 25). -/
def execBackChannelPacketSent (s : State) : Host.Outcome State Fault Refusal :=
  .next <|
    match s.link.back with
    | p :: rest =>
      (s.setLink { s.link with back := rest }).setPorts { s.ports with backFrame := some p.frame }
    | [] => s

/-- WAITING_REPLY_ENQUEUE (R158): once the queue has room the waiting reply joins its tail, which ends the
execution of its command. -/
def execWaitingReplyEnqueue (s : State) : Host.Outcome State Fault Refusal :=
  .next <|
    match s.link.waiting with
    | some r =>
      if s.link.back.length < backCapacity then
        s.setLink { s.link with back := s.link.back ++ [.reply r], waiting := none }
      else s
    | none => s

end Sys2Proof.Machine
end

