-- ==== Sys2Proof/Machine/Overlay.lean ====
section
/-! DEFINITION. The Overlay Compositor and Image Store (chapter 6): pages, images, palettes, objects, span
lists, object pixels, and the commands on overlays. -/

namespace Sys2Proof.Machine

open Sys2Proof

/-! ### Blending (R34) -/

/-- One component blended. -/
def blendByte (s d a : Byte) : Byte :=
  let a' := a.toNat + a.toNat / 128
  BitVec.ofNat 8 ((s.toNat * a' + d.toNat * (256 - a') + 128) / 256)

/-- An upper colour with alpha blended over a lower colour (R34). -/
def blend (s : RGBA) (d : RGB) : RGB :=
  ⟨blendByte s.r d.r s.a, blendByte s.g d.g s.a, blendByte s.b d.b s.a⟩

/-- A layer that may not cover the pixel. -/
def blendLayer (o : Option RGBA) (d : RGB) : RGB :=
  match o with
  | some s => blend s d
  | none => d

/-! ### Images and pages (R90, R91) -/

/-- Bytes in a page (R90). -/
def pageSize : Nat := 512

/-- The image size S in bytes (R90). -/
def imageSize (width height : Nat) (f : IndexFormat) : Nat :=
  match f with
  | .index8 => width * height
  | .index4 => ceilDiv (width * height) 2

/-- The size of a defined image. -/
def ImageDesc.size (d : ImageDesc) : Nat := imageSize d.width d.height d.format

/-- The pages a size needs (R90). -/
def pagesFor (size : Nat) : Nat := ceilDiv size pageSize

/-- A page merged into its place in an ascending list (R91). -/
def insertPage (p : Fin 2048) : List (Fin 2048) → List (Fin 2048)
  | [] => [p]
  | q :: qs => if p < q then p :: q :: qs else q :: insertPage p qs

/-- Pages merged into the free list (R91). -/
def mergePages (free pages : List (Fin 2048)) : List (Fin 2048) :=
  pages.foldl (fun acc p => insertPage p acc) free

/-- The pages of a descriptor, none for an UNDEFINED image. -/
def pagesOf (o : Option ImageDesc) : List (Fin 2048) :=
  match o with
  | some d => d.pages
  | none => []

/-- The address in the store of image byte b (R90). -/
def ImageDesc.addr (d : ImageDesc) (b : Nat) : Nat :=
  match d.pages[b / pageSize]? with
  | some p => p.val * pageSize + b % pageSize
  | none => 0

/-- Image byte b. -/
def OverlayUnit.imageByte (u : OverlayUnit) (d : ImageDesc) (b : Nat) : Byte :=
  u.store.read storeDefault (d.addr b)

/-- The bytes of pages set to 0 (R92, step 3). -/
def zeroPages (m : Memory) (pages : List (Fin 2048)) : Memory :=
  pages.foldl (fun m p => m.clear (p.val * pageSize) pageSize) m

/-- The pages a definition can take: the free list with the present pages of the image merged in. -/
def OverlayUnit.available (u : OverlayUnit) (n : Fin 128) : List (Fin 2048) :=
  mergePages u.freePages (pagesOf (u.images.get n))

/-- The four steps of a definition (R92). -/
def OverlayUnit.define (u : OverlayUnit) (n : Fin 128) (x : ImageShape) : OverlayUnit :=
  let need := pagesFor (imageSize x.width x.height x.format)
  let free := u.available n
  let taken := free.take need
  { u with
    freePages := free.drop need
    store := zeroPages u.store taken
    images := u.images.set n (some ⟨x.width, x.height, x.format, x.palette, taken⟩) }

/-- Image bytes written from an offset on (R93). -/
def OverlayUnit.writeImage (u : OverlayUnit) (d : ImageDesc) : Nat → List Byte → OverlayUnit
  | _, [] => u
  | b, x :: xs =>
    OverlayUnit.writeImage { u with store := u.store.write storeDefault (d.addr b) x } d (b + 1) xs

/-- An image made UNDEFINED and its pages returned (R94). -/
def OverlayUnit.free (u : OverlayUnit) (n : Fin 128) : OverlayUnit :=
  { u with freePages := u.available n, images := u.images.set n none }

/-- Whether an image is DEFINED. -/
def OverlayUnit.defined (u : OverlayUnit) (n : Fin 128) : Bool := (u.images.get n).isSome

/-! ### In use (R95) -/

/-- Whether a USED shadow entry names the image. -/
def OverlayUnit.shadowNames (u : OverlayUnit) (n : Fin 128) : Bool :=
  u.objects.toList.any fun o => o.any fun f => f.image == n

/-- The screens whose active lists name the image. -/
def OverlayUnit.screensNaming (u : OverlayUnit) (n : Fin 128) : FlagSet 3 :=
  u.screens.map fun sc => sc.list.any fun c => c.fields.image == n

/-- Whether the lost image setting names the image and it is DEFINED. -/
def State.lostImageNames (s : State) (n : Fin 128) : Bool :=
  s.takeover.settings.lostImage == some n && s.overlay.defined n

/-- Whether an image is in use (R95). -/
def State.imageInUse (s : State) (n : Fin 128) : Bool :=
  s.overlay.shadowNames n || !(s.overlay.screensNaming n).isEmpty || s.lostImageNames n

/-- Whether a save in flight protects the image: 120 to 127 (R147). -/
def State.imageHeld (s : State) (n : Fin 128) : Bool := s.saveInFlight && decide (120 ≤ n.val)

/-! ### Applying a commit at a frame start (R98, R100, R101) -/

/-- The overlay of one screen changed by a function. -/
def OverlayUnit.onScreen (u : OverlayUnit) (k : ScreenId) (f : OverlayScreen → OverlayScreen) :
    OverlayUnit :=
  { u with screens := u.screens.modify k f }

/-- The shadow palettes copied into a screen's active copy (R98). -/
def OverlayUnit.applyPalettes (u : OverlayUnit) (k : ScreenId) : OverlayUnit :=
  u.onScreen k fun sc => { sc with palettes := u.shadowPalettes }

/-- The copy of a shadow entry for a screen: its blink counter starts at 0 (R100, R101). -/
def copyFor (k : ScreenId) (entry : Fin 96) (o : Option ObjectFields) : Option ActiveCopy :=
  match o with
  | some f => if f.screen = k then some ⟨entry, f, f.blink.map fun _ => 0⟩ else none
  | none => none

/-- The active list rebuilt from the shadow table (R100). -/
def OverlayUnit.applyObjects (u : OverlayUnit) (k : ScreenId) : OverlayUnit :=
  u.onScreen k fun sc =>
    { sc with list := (List.finRange 96).filterMap fun e => copyFor k e (u.objects.get e) }

/-- A blink counter one frame on (R101). -/
def ActiveCopy.blinkOn (c : ActiveCopy) : ActiveCopy :=
  match c.counter, c.fields.blink with
  | some n, some b => { c with counter := some (if n + 1 = b.on + b.off then 0 else n + 1) }
  | _, _ => c

/-- The blink counters of a screen advanced (R101). -/
def OverlayUnit.advanceBlinks (u : OverlayUnit) (k : ScreenId) : OverlayUnit :=
  u.onScreen k fun sc => { sc with list := sc.list.map ActiveCopy.blinkOn }

/-- The per-frame SPAN_OVERFLOW flag cleared at a frame start (R104). -/
def OverlayUnit.newFrame (u : OverlayUnit) (k : ScreenId) : OverlayUnit :=
  u.onScreen k fun sc => { sc with raised := false }

/-! ### Span lists (R103, R104) -/

/-- Whether a copy is in its on-phase, or has no blink (R101). -/
def ActiveCopy.lit (c : ActiveCopy) : Bool :=
  match c.counter, c.fields.blink with
  | some n, some b => decide (n < b.on)
  | _, _ => true

/-- Whether a copy is suppressed: a FRONT MENU object without the keep flag, in a takeover (R103). -/
def suppressed (k : ScreenId) (takeover : Bool) (c : ActiveCopy) : Bool :=
  k == front && takeover && c.fields.plane == .menu && !c.fields.keep

/-- Whether a copy lies on a screen row by its place, its image's height and its clip rows (R103). -/
def ActiveCopy.covers (c : ActiveCopy) (height row : Nat) : Bool :=
  decide (c.fields.y ≤ row) && decide ((row : Int) < c.fields.y + height) &&
    match c.fields.clip with
    | some r => within r.y0 r.y1 row
    | none => true

/-- Whether a copy is a candidate for the span list of a row (R103). -/
def OverlayUnit.candidate (u : OverlayUnit) (k : ScreenId) (takeover : Bool) (row : Nat)
    (c : ActiveCopy) : Bool :=
  c.fields.visible && c.lit && !suppressed k takeover c &&
    match u.images.get c.fields.image with
    | some d => c.covers d.height row
    | none => false

/-- Whether a candidate lies below another: MENU before NOTICE, lower depth, higher entry (R104). -/
def spanBelow (a b : ActiveCopy) : Bool :=
  if a.fields.plane = b.fields.plane then
    if a.fields.depth = b.fields.depth then decide (b.entry < a.entry)
    else decide (a.fields.depth < b.fields.depth)
  else a.fields.plane == .menu

/-- A candidate put in its place, bottom first. -/
def insertSpan (c : ActiveCopy) : List ActiveCopy → List ActiveCopy
  | [] => [c]
  | x :: xs => if spanBelow c x then c :: x :: xs else x :: insertSpan c xs

/-- The candidates of a row, bottom first (R104). -/
def OverlayUnit.candidates (u : OverlayUnit) (k : ScreenId) (takeover : Bool) (row : Nat) :
    List ActiveCopy :=
  ((u.screens.get k).list.filter (u.candidate k takeover row)).foldr insertSpan []

/-- A span list holds at most 8 entries (R104). -/
def spanCapacity : Nat := 8

/-- The topmost eight of the candidates, bottom first (R104). -/
def spanList (cs : List ActiveCopy) : List ActiveCopy := cs.drop (cs.length - spanCapacity)

/-- An overflow row counted, and SPAN_OVERFLOW raised once per frame (R104). -/
def State.countOverflow (s : State) (k : ScreenId) : State :=
  let sc := s.overlay.screens.get k
  let s' := s.setOverlay (s.overlay.onScreen k fun sc =>
    { sc with overflows := count16 sc.overflows, raised := true })
  if sc.raised then s' else s'.raise .spanOverflow (.member (k.castLE (by decide)))

/-! ### Object pixels (R105, R106) -/

/-- The palette index of an image pixel (R105). -/
def OverlayUnit.pixelIndex (u : OverlayUnit) (d : ImageDesc) (p : Nat) : Fin 256 :=
  let b : Byte :=
    match d.format with
    | .index8 => u.imageByte d p
    | .index4 =>
      let x := u.imageByte d (p / 2)
      if p % 2 = 0 then x >>> 4 else x &&& 0x0F#8
  ⟨b.toNat, b.isLt⟩

/-- The palette entry of an image's pixel on a screen (R106). -/
def OverlayUnit.pixelColor (u : OverlayUnit) (k : ScreenId) (d : ImageDesc) (row col : Nat) : RGBA :=
  (((u.screens.get k).palettes.get d.palette).get (u.pixelIndex d (row * d.width + col)))

/-- The object's alpha combined with the palette's (R106). -/
def combinedAlpha (obj : Nat) (pal : Byte) : Byte := BitVec.ofNat 8 ((obj * pal.toNat + 127) / 255)

/-- Whether a screen column lies in a copy's clip columns (R105). -/
def clipColumn (c : Option Clip) (col : Nat) : Bool :=
  match c with
  | some r => within r.x0 r.x1 col
  | none => true

/-- The pixel a copy draws at a screen row and column (R105, R106). -/
def OverlayUnit.objectPixel (u : OverlayUnit) (k : ScreenId) (row col : Nat) (c : ActiveCopy) :
    Option RGBA :=
  match u.images.get c.fields.image with
  | none => none
  | some d =>
    let x : Int := col - c.fields.x
    let y : Int := row - c.fields.y
    if withinInt 0 (d.width - 1) x && clipColumn c.fields.clip col then
      let e := u.pixelColor k d y.toNat x.toNat
      some { e with a := combinedAlpha c.fields.alpha e.a }
    else none

/-! ### MEDIA reset (R108) -/

/-- Whether a MEDIA reset keeps a shadow entry: a FRONT NOTICE (R108). -/
def keptByMedia (f : ObjectFields) : Bool := f.screen == front && f.plane == .notice

/-- The overlays after a MEDIA reset (R108). -/
def OverlayUnit.mediaReset (u : OverlayUnit) : OverlayUnit :=
  { u with
    objects := u.objects.map fun o => o.filter keptByMedia
    screens := Tab.ofFn fun k =>
      let sc := u.screens.get k
      { sc with
        list := if k = front then sc.list.filter (fun c => c.fields.plane == .notice) else [] } }

/-! ### Commands on images -/

/-- The own rule of DEFINE IMAGE (R92). -/
def defineImage : CommandRule := fun _ ws s =>
  match ws with
  | [nr, w, h, f, p] => do
    let n ← orFail (numberOf 128 nr) .badValue
    let x ← orFail (imageShapeOf w h f p) .badValue
    ensure (!s.imageHeld n) .busy
    ensure (!(s.overlay.defined n && s.imageInUse n)) .inUse
    let need := pagesFor (imageSize x.width x.height x.format)
    ensure (decide (need ≤ (s.overlay.available n).length)) .noRoom
    let u := s.overlay.define n x
    return okayWith [numWord need, numWord u.freePages.length] (s.setOverlay u)
  | _ => .error .badLength

/-- The bytes packed one to a byte in fields, `n` of them; the pad byte is ignored (R169, log 32). -/
def packedBytes (n : Nat) (ws : List Word) : List Byte := (bytesOfWords ws).take n

/-- The own rule of IMAGE DATA (R93). -/
def imageData : CommandRule := fun _ ws s =>
  match ws with
  | nr :: hi :: lo :: cnt :: packed => do
    let n ← orFail (numberOf 128 nr) .badValue
    ensure (within 1 2048 cnt.toNat && packed.length == ceilDiv cnt.toNat 2) .badLength
    ensure (!s.imageHeld n) .busy
    let d ← orFail (s.overlay.images.get n) .notDefined
    ensure (decide (wideNat hi lo + cnt.toNat ≤ d.size)) .badLength
    ensure (!s.imageInUse n) .inUse
    return okay (s.setOverlay (s.overlay.writeImage d (wideNat hi lo) (packedBytes cnt.toNat packed)))
  | _ => .error .badLength

/-- The own rule of FREE IMAGE (R94). -/
def freeImage : CommandRule := fun _ ws s =>
  match ws with
  | [nr] => do
    let n ← orFail (numberOf 128 nr) .badValue
    ensure (!s.imageHeld n) .busy
    ensure (s.overlay.defined n) .notDefined
    ensure (!s.imageInUse n) .inUse
    let u := s.overlay.free n
    return okayWith [numWord u.freePages.length] (s.setOverlay u)
  | _ => .error .badLength

/-- The lowest of a list of pages, or NONE. -/
def lowestPage (ps : List (Fin 2048)) : Option Nat := (ps.map Fin.val).min?

/-- The highest of a list of pages, or NONE. -/
def highestPage (ps : List (Fin 2048)) : Option Nat := (ps.map Fin.val).max?

/-- A descriptor as IMAGE INFO reports it (R96): its state, UNDEFINED 0 or DEFINED 1, is the presence field of the rest
(log 10). -/
def descriptorWords (o : Option ImageDesc) : List Word :=
  optionalWords (o.map fun d =>
    [numWord d.width, numWord d.height, choiceWord indexFormats d.format, numWord d.palette.val] ++
    wideWords d.size ++
    [numWord d.pages.length, optWord (lowestPage d.pages), optWord (highestPage d.pages)])

/-- The data of IMAGE INFO (R96). R96 names three reasons for which an image is in use; they are coded as a flag for
the shadow table, a set of the screens whose active lists name it, and a flag for the lost image, and they stand also
for an image that is not in use. The head page number is 65535 for an empty free list, with no presence field (log
10). -/
def State.imageReport (s : State) (n : Fin 128) : List Word :=
  let u := s.overlay
  descriptorWords (u.images.get n) ++
  [flagWord (s.imageInUse n), flagWord (u.shadowNames n), setWord (u.screensNaming n),
    flagWord (s.lostImageNames n), numWord u.freePages.length, optWord (u.freePages.head?.map Fin.val)] ++
  u.screens.toList.map fun sc => numWord sc.overflows

/-- The three span-overflow counters set to 0 (R96). -/
def OverlayUnit.clearOverflows (u : OverlayUnit) : OverlayUnit :=
  { u with screens := u.screens.map fun sc => { sc with overflows := 0 } }

/-- The own rule of IMAGE INFO (R96). -/
def imageInfo : CommandRule := fun _ ws s =>
  match ws with
  | [nr, cl] => do
    let n ← orFail (numberOf 128 nr) .badValue
    let clear ← orFail (flagOf cl) .badValue
    return okayWith (s.imageReport n) (if clear then s.setOverlay s.overlay.clearOverflows else s)
  | _ => .error .badLength

/-! ### Commands on palettes and objects -/

/-- Entries of a palette replaced from one entry on (R97). -/
def writeEntries (t : Tab RGBA 256) (first : Nat) (es : List RGBA) : Tab RGBA 256 :=
  Tab.ofFn fun i => if within first (first + es.length - 1) i.val then es.getD (i.val - first) (t.get i)
    else t.get i

/-- The own rule of WRITE PALETTE (R97). -/
def writePalette : CommandRule := fun _ ws s =>
  match ws with
  | nr :: first :: cnt :: entries => do
    let p ← orFail (numberOf 4 nr) .badValue
    ensure (within 1 256 cnt.toNat && decide (first.toNat + cnt.toNat ≤ 256)) .badValue
    ensure (entries.length == 4 * cnt.toNat) .badLength
    let es ← orFail (entriesOf entries) .badValue
    return okay (s.setOverlay { s.overlay with
      shadowPalettes := s.overlay.shadowPalettes.modify p fun t => writeEntries t first.toNat es })
  | _ => .error .badLength

/-- The own rule of WRITE OBJECT (R99): entry, nine fields, optional clip, optional blink. A presence field other than
0 and 1 announces no form: it is answered BAD_VALUE whatever follows it (log 12). -/
def writeObject : CommandRule := fun _ ws s =>
  match ws with
  | nr :: rest => do
    ensure (decide (9 ≤ rest.length)) .badLength
    let (clip, rest') ← splitOptional 4 (rest.drop 9)
    let (blink, rest'') ← splitOptional 2 rest'
    ensure rest''.isEmpty .badLength
    let e ← orFail (numberOf 96 nr) .badValue
    let o ← orFail (objectOf (rest.take 9) clip blink) .badValue
    ensure (s.overlay.defined o.image) .notDefined
    return okay (s.setOverlay { s.overlay with objects := s.overlay.objects.set e (some o) })
  | [] => .error .badLength

/-- The own rule of CLEAR OBJECT (R99). -/
def clearObject : CommandRule := fun _ ws s =>
  match ws with
  | [nr] => do
    let e ← orFail (numberOf 96 nr) .badValue
    return okay (s.setOverlay { s.overlay with objects := s.overlay.objects.set e none })
  | _ => .error .badLength

/-- The copy of an entry in an active list, as READ OBJECT reports it: fields, blink counter and phase (R102). The
phase is coded as a flag, on-phase 1 and off-phase 0 (log 10). -/
def activeReport (u : OverlayUnit) (k : ScreenId) (e : Fin 96) : List Word :=
  optionalWords (((u.screens.get k).list.find? fun c => c.entry == e).map fun c =>
    objectWords c.fields ++ optionalWords (c.counter.map fun n => [numWord n, flagWord c.lit]))

/-- The own rule of READ OBJECT (R102): entry, SHADOW, or entry, ACTIVE, screen (log 11). The state of the entry, FREE
0 or USED 1, or whether the list holds a copy, is the presence field of the fields (log 10). A selector that names
neither copy has no form: with two or three fields it is answered BAD_VALUE, with any other number BAD_LENGTH (log
11). -/
def readObject : CommandRule := fun _ ws s =>
  match ws with
  | [nr, sel] => do
    ensure (sel.toNat != 1) .badLength
    let e ← orFail (numberOf 96 nr) .badValue
    ensure (sel.toNat == 0) .badValue
    return okayWith (optionalWords ((s.overlay.objects.get e).map objectWords)) s
  | [nr, sel, sc] => do
    ensure (sel.toNat != 0) .badLength
    let e ← orFail (numberOf 96 nr) .badValue
    ensure (sel.toNat == 1) .badValue
    let k ← orFail (numberOf 3 sc) .badValue
    return okayWith (activeReport s.overlay k e) s
  | _ => .error .badLength

/-- DEFINE_IMAGE, command code 16. -/
def execDefineImage (s : State) : Host.Outcome State Fault Refusal :=
  .next (runCommand (codeIs 16) defineImage s)

/-- IMAGE_DATA, command code 17. -/
def execImageData (s : State) : Host.Outcome State Fault Refusal :=
  .next (runCommand (codeIs 17) imageData s)

/-- FREE_IMAGE, command code 18. -/
def execFreeImage (s : State) : Host.Outcome State Fault Refusal :=
  .next (runCommand (codeIs 18) freeImage s)

/-- IMAGE_INFO, command code 19. -/
def execImageInfo (s : State) : Host.Outcome State Fault Refusal :=
  .next (runCommand (codeIs 19) imageInfo s)

/-- WRITE_PALETTE, command code 20. -/
def execWritePalette (s : State) : Host.Outcome State Fault Refusal :=
  .next (runCommand (codeIs 20) writePalette s)

/-- WRITE_OBJECT, command code 21. -/
def execWriteObject (s : State) : Host.Outcome State Fault Refusal :=
  .next (runCommand (codeIs 21) writeObject s)

/-- CLEAR_OBJECT, command code 22. -/
def execClearObject (s : State) : Host.Outcome State Fault Refusal :=
  .next (runCommand (codeIs 22) clearObject s)

/-- READ_OBJECT, command code 23. -/
def execReadObject (s : State) : Host.Outcome State Fault Refusal :=
  .next (runCommand (codeIs 23) readObject s)

end Sys2Proof.Machine
end

