-- ==== Sys2Proof/Config.lean ====
section
/-! DEFINITION. What the spec leaves open: free values, with no body, so that no proof can see them.

Each is applied to `State.freeCount`, a counter of the model's own that advances at every use, so
that no two uses need give the same value (logs 7, 18, 22). -/

namespace Sys2Proof.Config

/-- The byte that a cut or failed flash write step leaves at an address (R167, log 7). -/
opaque cutByte : Nat → Nat → Byte

/-- Whether a cut or failed record step leaves the erased area behind, and not a frame whose CRC is
wrong (the two outcomes R167 gives; log 7). -/
opaque cutLeavesErased : Nat → Bool

/-- The key field that READ TABLE reports for a guide set never written: such a set "holds no key"
(R73), and R145 still lists the key in the reply (log 22). -/
opaque absentKey : Nat → Word

/-- The colour components of a window column for which the taken line holds no pixel: the stream was
closed and opened again with another width inside one frame (R29, R32; log 18). -/
opaque unstatedColour : Nat → Nat → Fin 3 → Byte

end Sys2Proof.Config
end

