-- ==== Sys2Proof/Machine/Tables.lean ====
section
/-! DEFINITION. The Table Store (chapter 9): the pending set, the release at a boundary, the outcome
records, and the commands COMMIT, COMMIT STATUS and READ TABLE. -/

namespace Sys2Proof.Machine

open Sys2Proof

/-! ### Holds and release (R143, R146) -/

/-- The groups that a save in flight holds (R146). -/
def Group.heldBySave : Group → Bool
  | .screenFront => true
  | .palettes => true
  | .guide => true
  | .screenRearLeft => false
  | .screenRearRight => false
  | .objects => false
  | .mix => false

/-- Whether a group is held now. -/
def State.held (s : State) (g : Group) : Bool := s.saveInFlight && g.heldBySave

/-- The pending item of a group. -/
def State.item (s : State) (g : Group) : Option Item := s.tables.items.get g.index

/-- The item of a group without screens released at its boundary (R143). -/
def State.released (s : State) (g : Group) : Option Item := if s.held g then none else s.item g

/-- Whether an item has still to be applied by a screen (R141). -/
def Item.awaits (i : Item) (k : ScreenId) : Bool :=
  match i.screens with
  | some set => set.get k
  | none => false

/-- The item of OBJECTS or PALETTES released at a frame start of a screen (R143). -/
def State.releasedFor (s : State) (g : Group) (k : ScreenId) : Option Item :=
  (s.released g).filter fun i => i.awaits k

/-- An item replaced in the pending set. -/
def State.setItem (s : State) (g : Group) (o : Option Item) : State :=
  s.setTables { s.tables with items := s.tables.items.set g.index o }

/-- An item leaves the pending set, and the group's outcome record is replaced (R144). -/
def State.leave (s : State) (g : Group) (i : Item) (o : CommitOutcome) (f : Option FrameRef) : State :=
  s.setTables { s.tables with
    items := s.tables.items.set g.index none
    outcomes := s.tables.outcomes.set g.index ⟨o, some i.lastTag, f⟩ }

/-- A screen leaves an item's screens; the item leaves the set when no screen is left (R143). -/
def State.screenApplied (s : State) (g : Group) (i : Item) (k : ScreenId) (f : FrameRef) : State :=
  let left := (i.screens.getD (FlagSet.empty 3)).erase k
  if left.isEmpty then s.leave g i .applied (some f)
  else s.setItem g (some { i with screens := some left })

/-- The pending items that a MEDIA reset drops, whether held or not (R148). -/
def State.dropItem (s : State) (g : Group) : State :=
  match s.item g with
  | some i => s.leave g i .droppedReset none
  | none => s

/-! ### COMMIT (R142) -/

/-- What became of a named group. -/
inductive Fate where
  | added
  | merged
  | refused
deriving DecidableEq, Repr

/-- The fates in the order R142 names them. -/
def fates : List Fate := [.added, .merged, .refused]

/-- The screens that a COMMIT asks an item to apply: the mask for OBJECTS, all three for PALETTES. -/
def askedScreens (g : Group) (mask : FlagSet 3) : Option (FlagSet 3) :=
  match g with
  | .objects => some mask
  | .palettes => some (Tab.replicate 3 true)
  | _ => none

/-- An item added with the tag, or merged with it (R142). -/
def joinItem (g : Group) (mask : FlagSet 3) (p : ControlPacket) : Option Item → Item
  | none => ⟨askedScreens g mask, p.tag, if p.notify then some p.tag else none⟩
  | some i =>
    { screens :=
        match i.screens, askedScreens g mask with
        | some a, some b => some (a.union b)
        | _, b => b
      lastTag := p.tag
      notifyTag := if p.notify then some p.tag else i.notifyTag }

/-- One named group taken, or GUIDE refused by its validation (R76, R142). -/
def State.takeGroup (s : State) (p : ControlPacket) (mask : FlagSet 3) (g : Group) : Fate × State :=
  if g = .guide ∧ s.guide.shadow.valid = false then (.refused, s)
  else
    (if (s.item g).isSome then .merged else .added, s.setItem g (some (joinItem g mask p (s.item g))))

/-- The named groups taken in R140's order, with two data fields for each: its fate and whether it is held. No count
stands before them (log 10). -/
def State.takeGroups (s : State) (p : ControlPacket) (mask : FlagSet 3) : List Group → List Word × State
  | [] => ([], s)
  | g :: gs =>
    let (fate, s') := s.takeGroup p mask g
    let (ws, s'') := s'.takeGroups p mask gs
    ([choiceWord fates fate, flagWord (s.held g)] ++ ws, s'')

/-- The groups a set names, in R140's order. -/
def namedGroups (set : FlagSet 7) : List Group := Group.all.filter fun g => set.get g.index

/-- The own rule of COMMIT (R142): a group set and a screen mask. -/
def commit : CommandRule := fun p ws s =>
  match ws with
  | [gw, mw] => do
    let groups ← orFail (setOf 7 gw) .badValue
    ensure (!groups.isEmpty) .badValue
    let mask := (setOf 3 mw).getD (FlagSet.empty 3)
    ensure (!groups.get Group.objects.index || ((setOf 3 mw).isSome && !mask.isEmpty)) .badValue
    let refused := groups.get Group.guide.index && !s.guide.shadow.valid
    let (data, s') := s.takeGroups p mask (namedGroups groups)
    return ⟨if refused then .invalidTable else .ok, data, s'⟩
  | _ => .error .badLength

/-! ### COMMIT STATUS (R144) -/

/-- An outcome as a field: NONE is 65535, the others their place in R144's list (log 10). -/
def outcomeWord (o : CommitOutcome) : Word :=
  if o = .none then wordNone else choiceWord commitOutcomes o

/-- A pending item as COMMIT STATUS reports it. -/
def itemWords (held : Bool) (o : Option Item) : List Word :=
  optionalWords (o.map fun i =>
    optionalWords (i.screens.map fun set => [setWord set]) ++ [byteWord i.lastTag] ++
    optionalWords (i.notifyTag.map fun t => [byteWord t]) ++ [flagWord held])

/-- An outcome record as COMMIT STATUS reports it. -/
def outcomeWords (r : OutcomeRec) : List Word :=
  [outcomeWord r.outcome] ++ optionalWords (r.tag.map fun t => [byteWord t]) ++
  optionalWords (r.frame.map fun f => [numWord f.screen.val, byteWord f.frame])

/-- The data of COMMIT STATUS (R144). -/
def State.commitReport (s : State) : List Word :=
  [flagWord s.saveInFlight] ++ (Group.all.flatMap fun g => itemWords (s.held g) (s.item g)) ++
  s.tables.outcomes.toList.flatMap outcomeWords

/-- The own rule of COMMIT STATUS (R144). -/
def commitStatus : CommandRule := fun _ ws s =>
  match ws with
  | [cl] => do
    let clear ← orFail (flagOf cl) .badValue
    return okayWith s.commitReport
      (if clear then s.setTables { s.tables with outcomes := Tab.replicate 7 OutcomeRec.reset } else s)
  | _ => .error .badLength

/-! ### READ TABLE (R145) -/

/-- The data of a guide set. A set never written holds no key: its key field is a free value, and its
vertex count is 0 (R73, log 22). -/
def readGuideSet (o : Option GuideSet) (s : State) : Answer :=
  match o with
  | some g => okayWith (guideSetWords g) s
  | none => okayWith [Config.absentKey s.freeCount, 0#16] (s.setFreeCount (s.freeCount + 1))

/-- A READ TABLE of GUIDE: part 0 GENERAL, part k + 1 set k (log 11). -/
def readGuide (sel part : Word) (s : State) : Checked Answer := do
  let copy ← orFail (choiceOf selectors sel) .badValue
  let table :=
    match copy with
    | .active => s.guide.active
    | .shadow => s.guide.shadow
  if part.toNat = 0 then return okayWith (guideGeneralWords table) s
  else do
    let k ← orFail (numberOf 17 (part - 1#16)) .badValue
    return readGuideSet (table.sets.get k) s

/-- Entries of a palette as fields. No count stands before them, since the request gives their number (log 10). -/
def entryWords (t : Tab RGBA 256) (first n : Nat) : List Word :=
  ((t.toList.drop first).take n).flatMap rgbaWords

/-- A READ TABLE of PALETTES: palette, first entry, count, and a screen with ACTIVE (R145). -/
def readPalettes (sel nr first cnt : Word) (screen : Option Word) (s : State) : Checked Answer := do
  let copy ← orFail (choiceOf selectors sel) .badValue
  let p ← orFail (numberOf 4 nr) .badValue
  ensure (within 1 256 cnt.toNat && decide (first.toNat + cnt.toNat ≤ 256)) .badValue
  match copy, screen with
  | .shadow, _ => return okayWith (entryWords (s.overlay.shadowPalettes.get p) first.toNat cnt.toNat) s
  | .active, none => .error .badValue
  | .active, some sc => do
    let k ← orFail (numberOf 3 sc) .badValue
    return okayWith
      (entryWords ((s.overlay.screens.get k).palettes.get p) first.toNat cnt.toNat) s

/-- The own rule of READ TABLE (R145): GUIDE 0 or PALETTES 1, then the fields of the group's form. Another group has no
form with whose length the fields could be compared: it is answered BAD_VALUE, whatever follows it (log 11). -/
def readTable : CommandRule := fun _ ws s =>
  match ws with
  | [] => .error .badLength
  | g :: rest =>
    if g.toNat = 0 then
      match rest with
      | [sel, part] => readGuide sel part s
      | _ => .error .badLength
    else if g.toNat = 1 then
      match rest with
      | sel :: nr :: first :: cnt :: opt => do
        let (screen, after) ← splitOptional 1 opt
        ensure after.isEmpty .badLength
        readPalettes sel nr first cnt (screen.bind List.head?) s
      | _ => .error .badLength
    else .error .badValue

/-- COMMIT, command code 34. -/
def execCommit (s : State) : Host.Outcome State Fault Refusal :=
  .next (runCommand (codeIs 34) commit s)

/-- COMMIT_STATUS, command code 35. -/
def execCommitStatus (s : State) : Host.Outcome State Fault Refusal :=
  .next (runCommand (codeIs 35) commitStatus s)

/-- READ_TABLE, command code 36. -/
def execReadTable (s : State) : Host.Outcome State Fault Refusal :=
  .next (runCommand (codeIs 36) readTable s)

end Sys2Proof.Machine
end

