-- ==== Sys2Proof/Machine/Takeover.lean ====
section
/-! DEFINITION. The Takeover Controller (chapter 4): claims, states, timers, the frame starts of FRONT as
the controller sees them, and the commands on the takeover. -/

namespace Sys2Proof.Machine

open Sys2Proof

/-- A claim (R54). -/
inductive Claim where
  | reverse
  | manual
deriving DecidableEq, Repr

/-- Whether a claim is in the claim set. -/
def TakeoverUnit.claims (t : TakeoverUnit) : Claim → Bool
  | .reverse => t.reverse
  | .manual => t.manual

/-- Whether the claim set is empty. -/
def TakeoverUnit.noClaim (t : TakeoverUnit) : Bool := !t.reverse && !t.manual

/-- A claim added or removed, with its change flag set (R55 to R58). -/
def TakeoverUnit.setClaim (t : TakeoverUnit) (c : Claim) (present : Bool) : TakeoverUnit :=
  match c with
  | .reverse => { t with reverse := present, reverseChanged := true }
  | .manual => { t with manual := present, manualChanged := true }

/-- The takeover state set. -/
def State.setTakeoverState (s : State) (x : TakeoverState) : State :=
  s.setTakeover { s.takeover with state := x }

/-- Whether SPEED is FRESH and above a limit (R56, R58, R63). -/
def State.speedAbove (s : State) (limit : Nat) : Bool :=
  (s.signal .speed).state == .fresh && decide ((limit : Int) < (s.signal .speed).value)

/-- FRONT's timing by the camera: LOCKED when stream 7 is RUNNING, FREE when it is not (R62, R64). -/
def State.timingByCamera (s : State) : State :=
  s.setFrontTiming (if (s.stream camera).state = .running then .locked else .free)

/-! ### Transitions -/

/-- The five things done when a claim is added in NORMAL (R59); `opened` says that the controller opened
stream 7 in the same event. -/
def State.switchIn (s : State) (c : Claim) (opened : Bool) : State :=
  let s := s.setTakeoverState .switchingIn
  let s := s.parkSource s.frontSource
  let s := if opened then s else s.reopenCamera
  let s := s.setFrontTiming .locked
  let s := s.setTakeover { s.takeover with
    entryTimer := Timer.startMs s.takeover.settings.entryDeadline }
  match c, s.takeover.settings.entryChime with
  | .reverse, some p => (s.requestChime p).2
  | _, _ => s

/-- A claim added, by the state it finds (R64). -/
def State.claimAdded (s : State) (c : Claim) (opened : Bool) : State :=
  match s.takeover.state with
  | .normal => s.switchIn c opened
  | .switchingIn => s
  | .showing => s
  | .linger => s.setTakeover { s.takeover with state := .showing, lingerTimer := .stopped }
  | .switchingOut =>
    let s := s.setTakeover { s.takeover with
      state := .showing, exitTimer := .stopped, exitDue := false }
    (s.parkSource s.frontSource).timingByCamera

/-- Entry into SWITCHING_OUT (R62). -/
def State.switchOut (s : State) : State :=
  let s := s.setTakeover { s.takeover with
    state := .switchingOut, entryTimer := .stopped, lingerTimer := .stopped,
    exitTimer := Timer.startMs s.takeover.settings.exitDeadline, exitDue := false }
  (s.unparkSource s.frontSource).timingByCamera

/-- Entry into LINGER (R63). -/
def State.enterLinger (s : State) : State :=
  s.setTakeover { s.takeover with
    state := .linger, lingerTimer := Timer.startMs (100 * s.takeover.settings.lingerTime) }

/-- The last claim removed, by the state it finds (R63). -/
def State.claimsEmptied (s : State) (last : Claim) : State :=
  match s.takeover.state with
  | .normal => s
  | .switchingIn => s.switchOut
  | .linger => s
  | .switchingOut => s
  | .showing =>
    if last = .reverse ∧ 0 < s.takeover.settings.lingerTime ∧
        s.speedAbove s.takeover.settings.lingerSpeed = false then s.enterLinger
    else s.switchOut

/-- A claim removed: it acts on the state when the claim set has become empty (R63). -/
def State.claimRemoved (s : State) (c : Claim) : State :=
  if s.takeover.noClaim then s.claimsEmptied c else s

/-! ### The causes of a claim -/

/-- An edge of the reverse request (R55): the claim, its flag, the park tone's judgement, the state. -/
def State.reverseEdge (s : State) (l : Level) : State :=
  match l with
  | .engaged =>
    let s := (s.setTakeover (s.takeover.setClaim .reverse true)).judgePark
    s.claimAdded .reverse false
  | .released =>
    let s := (s.setTakeover (s.takeover.setClaim .reverse false)).judgePark
    s.claimRemoved .reverse

/-- A change of the SPEED record: the speed condition on MANUAL (R58), then that of LINGER (R63). -/
def State.speedChanged (s : State) : State :=
  let s :=
    if s.takeover.manual = true ∧ s.speedAbove s.takeover.settings.manualSpeed = true then
      let s := s.setTakeover { s.takeover.setClaim .manual false with speedRemoved := true }
      (s.raise .takeoverChange .occurrence).claimRemoved .manual
    else s
  if s.takeover.state = .linger ∧ s.speedAbove s.takeover.settings.lingerSpeed = true then s.switchOut
  else s

/-! ### FRONT frame starts (R60, R65, R69) -/

/-- The switch-out completes (R65, case 3). -/
def State.completeSwitchOut (s : State) : State :=
  let s := s.setTakeover { s.takeover with
    state := .normal, exitTimer := .stopped, exitDue := false, presentation := .picture }
  (s.setFrontTiming .free).raise .takeoverChange .occurrence

/-- Whether FRONT's active normal source is RUNNING, CLOSED or NONE (R65, case 3). -/
def State.sourceReady (s : State) : Bool :=
  match s.frontSource with
  | none => true
  | some k => (s.stream k).state == .running || (s.stream k).state == .closed

/-- The state of the controller as cases 1 to 3 of R65 act on it, and R60 in SWITCHING_IN. -/
def State.takeoverAtFrame (s : State) : State :=
  match s.takeover.state with
  | .normal => s
  | .switchingIn =>
    (s.setTakeover { s.takeover with state := .showing, entryTimer := .stopped }).raise
      .takeoverChange .occurrence
  | .showing => s
  | .linger => s
  | .switchingOut => if s.sourceReady || s.takeover.exitDue then s.completeSwitchOut else s

/-- The presentation given in every state other than NORMAL (R65, case 4). -/
def State.givePresentation (s : State) : State :=
  if s.takeover.state = .normal then s
  else s.setTakeover { s.takeover with
    presentation := if (s.stream camera).state = .running then .picture else .lost }

/-- The controller's action at a FRONT frame start (R65). -/
def State.takeoverFrameStart (s : State) : State := s.takeoverAtFrame.givePresentation

/-- A change of FRONT's active normal source, reported in a takeover state (R69). -/
def State.sourceChanged (s : State) (old new : Option StreamId) : State :=
  match s.takeover.state with
  | .normal => s
  | .switchingOut => s
  | .switchingIn => (s.unparkSource old).parkSource new
  | .showing => (s.unparkSource old).parkSource new
  | .linger => (s.unparkSource old).parkSource new

/-! ### Start (R72) -/

/-- The start of the controller with its settings: stream 7 opened, the reverse request read. -/
def State.startTakeover (s : State) (t : TakeoverSettings) : State :=
  let s := s.setTakeover { s.takeover with settings := t, started := true }
  let s := s.openCamera
  if s.signals.request = .engaged then
    let s := (s.setTakeover (s.takeover.setClaim .reverse true)).judgePark
    s.claimAdded .reverse true
  else s

/-! ### Timer events -/

/-- ENTRY_DEADLINE_EXPIRY (R61). -/
def execEntryDeadlineExpiry (s : State) : Host.Outcome State Fault Refusal :=
  .next <|
    if s.takeover.state = .switchingIn ∧ s.takeover.entryTimer.isDue then
      let s := (s.setTakeover { s.takeover with state := .showing, entryTimer := .stopped }).raise
        .takeoverChange .occurrence
      if (s.stream camera).state = .running then s
      else (s.setFrontTiming .free).raise .cameraLost .occurrence
    else s

/-- LINGER_TIMER_EXPIRY (R63). -/
def execLingerTimerExpiry (s : State) : Host.Outcome State Fault Refusal :=
  .next <|
    if s.takeover.state = .linger ∧ s.takeover.lingerTimer.isDue then s.switchOut else s

/-- EXIT_DEADLINE_EXPIRY (R68). -/
def execExitDeadlineExpiry (s : State) : Host.Outcome State Fault Refusal :=
  .next <|
    if s.takeover.state = .switchingOut ∧ s.takeover.exitTimer.isDue then
      (s.setTakeover { s.takeover with exitDue := true, exitTimer := .stopped }).setFrontTiming .free
    else s

/-! ### Commands -/

/-- Whether two settings ask the same of stream 7 (R53). -/
def sameCamera (a b : TakeoverSettings) : Bool :=
  a.width == b.width && a.height == b.height && a.format == b.format && a.capacity == b.capacity &&
    a.readyLevel == b.readyLevel

/-- The own rule of WRITE TAKEOVER SETTINGS (R53). -/
def writeTakeoverSettings : CommandRule := fun _ ws s => do
  let t ← takeoverOf ws
  ensure (!s.saveInFlight) .busy
  let old := s.takeover.settings
  let s := s.setTakeover { s.takeover with settings := t }
  return okayWith (takeoverWords t) (if sameCamera old t then s else s.reopenCamera)

/-- The own rule of START VIEW (R56). -/
def startView : CommandRule := noParameters fun s => do
  ensure (!s.speedAbove s.takeover.settings.manualSpeed) .speedHigh
  return okay
    (if s.takeover.manual then s
     else (s.setTakeover (s.takeover.setClaim .manual true)).claimAdded .manual false)

/-- The own rule of STOP VIEW (R57). -/
def stopView : CommandRule := noParameters fun s =>
  let removed :=
    if s.takeover.manual then s.setTakeover (s.takeover.setClaim .manual false) else s
  if s.takeover.reverse then .ok ⟨.reverseHeld, [], removed⟩
  else if s.takeover.manual then .ok (okay (removed.claimRemoved .manual))
  else if s.takeover.state = .linger then .ok (okay s.switchOut)
  else .ok (okay s)

/-- A timer as TAKEOVER STATUS reports it: whether it runs and, if so, the whole ms left (R71). -/
def timerWords (t : Timer) : List Word :=
  optionalWords (if t.isRunning then some [numWord t.msLeft] else none)

/-- The claim set as a field: REVERSE bit 0, MANUAL bit 1 (R54, R169). -/
def claimWord (t : TakeoverUnit) : Word :=
  numWord ((if t.reverse then 1 else 0) + if t.manual then 2 else 0)

/-- The data of TAKEOVER STATUS (R71). Started, yes or no, is coded as a flag, 1 or 0 (log 10). -/
def State.takeoverReport (s : State) : List Word :=
  let t := s.takeover
  [flagWord t.started, choiceWord takeoverStates t.state, claimWord t, flagWord t.reverseChanged,
    flagWord t.manualChanged, flagWord t.speedRemoved,
    choiceWord presentations (if t.state = .normal then .picture else t.presentation),
    choiceWord timings (s.screen front).timing] ++
  timerWords t.entryTimer ++ timerWords t.lingerTimer ++ timerWords t.exitTimer ++
  [flagWord t.exitDue, choiceWord levels s.signals.request,
    choiceWord streamStates (s.stream camera).state] ++
  takeoverWords t.settings

/-- The own rule of TAKEOVER STATUS: the report, then the three flags cleared (R71). -/
def takeoverStatus : CommandRule := noParameters fun s =>
  .ok (okayWith s.takeoverReport (s.setTakeover { s.takeover with
    reverseChanged := false, manualChanged := false, speedRemoved := false }))

/-- WRITE_TAKEOVER_SETTINGS, command code 9. -/
def execWriteTakeoverSettings (s : State) : Host.Outcome State Fault Refusal :=
  .next (runCommand (codeIs 9) writeTakeoverSettings s)

/-- START_VIEW, command code 10. -/
def execStartView (s : State) : Host.Outcome State Fault Refusal :=
  .next (runCommand (codeIs 10) startView s)

/-- STOP_VIEW, command code 11. -/
def execStopView (s : State) : Host.Outcome State Fault Refusal :=
  .next (runCommand (codeIs 11) stopView s)

/-- TAKEOVER_STATUS, command code 12. -/
def execTakeoverStatus (s : State) : Host.Outcome State Fault Refusal :=
  .next (runCommand (codeIs 12) takeoverStatus s)

end Sys2Proof.Machine
end

