-- ==== Sys2Proof/Machine/Screens.lean ====
section
/-! DEFINITION. The Screen Assemblers (chapter 2): frame starts, rows, layers, and the commands on
screens. -/

namespace Sys2Proof.Machine

open Sys2Proof

/-! ### The screen group at a frame start (R25, R69) -/

/-- The SCREEN group of a screen (R20). -/
def screenGroup (k : ScreenId) : Group :=
  if k = front then .screenFront else if k = 1 then .screenRearLeft else .screenRearRight

/-- The number of the frame that starts (R25). -/
def State.nextFrame (s : State) (k : ScreenId) : Byte := (s.screen k).counter + 1#8

/-- A Screen Assembler changed by a function. -/
def State.overScreen (s : State) (k : ScreenId) (f : ScreenUnit → ScreenUnit) : State :=
  s.setScreen k (f (s.screen k))

/-- The commit of the screen group, with the report of a changed FRONT source (R25, R69). -/
def State.commitScreen (s : State) (k : ScreenId) : State :=
  match s.released (screenGroup k) with
  | none => s
  | some i =>
    let old := s.frontSource
    let f : FrameRef := ⟨k, s.nextFrame k⟩
    let s := (s.overScreen k fun u => { u with active := u.shadow }).leave (screenGroup k) i .applied
      (some f)
    if k = front ∧ s.frontSource ≠ old then s.sourceChanged old s.frontSource else s

/-- The frame counter advanced by 1, from 255 to 0 (R25). -/
def State.countFrame (s : State) (k : ScreenId) : State :=
  s.overScreen k fun u => { u with counter := u.counter + 1#8 }

/-! ### Source, window and mode (R26, R27) -/

/-- Whether FRONT shows the camera: a takeover state (R26). -/
def State.showsCamera (s : State) (k : ScreenId) : Bool := k == front && s.takeover.state != .normal

/-- The frame source (R26). -/
def State.frameSource (s : State) (k : ScreenId) : Option StreamId :=
  if s.showsCamera k then some camera else (s.screen k).active.source

/-- The window of a frame (R26). -/
def State.frameWindow (s : State) (k : ScreenId) : Option Window :=
  let a := (s.screen k).active
  if s.showsCamera k then
    let r := s.stream camera
    some ⟨a.cameraX, a.cameraY, r.width, r.height, s.takeover.settings.mirror⟩
  else
    match a.source with
    | none => none
    | some j => let r := s.stream j; some ⟨a.originX, a.originY, r.width, r.height, false⟩

/-- Whether the queue of a stream holds a line 0. -/
def StreamRec.holdsStart (r : StreamRec) : Bool := r.queue.any QueueEntry.frameStart

/-- Whether a frame is TAKING (R27). -/
def State.isTaking (s : State) (k : ScreenId) : Bool :=
  match s.frameSource k with
  | none => false
  | some j =>
    !(s.showsCamera k && s.takeover.presentation == .lost) && (s.stream j).state == .running &&
      (s.stream j).holdsStart

/-- The lost image of a LOST frame of FRONT, when the setting names a DEFINED image (R36, log 19). -/
def State.lostImageNow (s : State) (k : ScreenId) : Option (Fin 128) :=
  if s.showsCamera k = true ∧ s.takeover.presentation = .lost then
    s.takeover.settings.lostImage.filter fun n => s.overlay.defined n
  else none

/-- The frame record that a frame start fills (section 2.2, R26 to R28). -/
def State.newFrameRec (s : State) (k : ScreenId) : FrameRec where
  source := s.frameSource k
  presentation := if s.showsCamera k then some s.takeover.presentation else none
  mode := if s.isTaking k then .taking else .fill
  window := s.frameWindow k
  nextRow := 0
  holdRun := 0
  lastRow := none
  shown := if s.isTaking k then s.frameSource k else none
  lostImage := s.lostImageNow k

/-- The entries ahead of the line 0 nearest the head removed, for a TAKING frame (R27). -/
def State.trimSource (s : State) (k : ScreenId) : State :=
  if s.isTaking k then
    match s.frameSource k with
    | some j => s.setStream j (s.stream j).trim
    | none => s
  else s

/-- The frame source, window and mode fixed (R26, R27). -/
def State.openFrame (s : State) (k : ScreenId) : State :=
  (s.trimSource k).overScreen k fun u => { u with frame := some (s.newFrameRec k) }

/-! ### The guide lines at a FRONT frame start (R77, R78) -/

/-- A released GUIDE item applied, or dropped when the shadow copy is not valid (R77). -/
def State.commitGuide (s : State) (f : FrameRef) : State :=
  match s.released .guide with
  | none => s
  | some i =>
    if s.guide.shadow.valid then
      (s.setGuide { s.guide with active := s.guide.shadow }).leave .guide i .applied (some f)
    else
      let s := s.leave .guide i .droppedInvalid (some f)
      match i.notifyTag with
      | some t => s.raise .commandRefused (.tag t)
      | none => s

/-- Whether the frame is a guide frame (R78, step 3). -/
def State.isGuideFrame (s : State) : Bool :=
  s.takeover.state != .normal && s.takeover.presentation == .picture &&
    (s.stream camera).state == .running && (s.screen front).active.guideEnable &&
    decide (1 ≤ s.guide.active.setCount)

/-- Where the guide lines of the frame may be painted (R78, R85). -/
def State.paintArea (s : State) : PaintArea :=
  let a := (s.screen front).active
  let r := s.stream camera
  ⟨r.width, r.height, a.cameraX, a.cameraY, a.width, a.height⟩

/-- The Guide Generator at a FRONT frame start (R78). -/
def State.guideFrame (s : State) (f : FrameRef) : State :=
  let s := s.commitGuide f
  s.setGuide (s.guide.frame s.isGuideFrame f.frame (s.signal .steer) s.signals.nearest s.paintArea)

/-! ### Overlays at a frame start (R98, R100, R101, R104) -/

/-- A released PALETTES item applied by the screen (R98). -/
def State.commitPalettes (s : State) (k : ScreenId) (f : FrameRef) : State :=
  match s.releasedFor .palettes k with
  | some i => (s.setOverlay (s.overlay.applyPalettes k)).screenApplied .palettes i k f
  | none => s

/-- A released OBJECTS item applied by the screen, or the blink counters advanced (R100, R101). -/
def State.commitObjects (s : State) (k : ScreenId) (f : FrameRef) : State :=
  match s.releasedFor .objects k with
  | some i => (s.setOverlay (s.overlay.applyObjects k)).screenApplied .objects i k f
  | none => s.setOverlay (s.overlay.advanceBlinks k)

/-- The overlays of a screen at its frame start. -/
def State.overlayFrame (s : State) (k : ScreenId) (f : FrameRef) : State :=
  let s := (s.commitPalettes k f).commitObjects k f
  s.setOverlay (s.overlay.newFrame k)

/-! ### The frame start (R23 to R28; order: log 17) -/

/-- The frame marker (R28). -/
def State.sendFrameMarker (s : State) (k : ScreenId) : State :=
  let u := s.screen k
  s.handMarker (.frameMarker k (u.frame.bind FrameRec.shown) u.counter)

/-- The frame period counted from this frame start (R23, R24). -/
def State.restartPeriod (s : State) (k : ScreenId) : State :=
  s.overScreen k fun u => { u with period := Timer.framePeriod u.active.rate }

/-- A frame start of a screen, in FREE or LOCKED timing. -/
def State.frameStart (s : State) (k : ScreenId) : State :=
  let f : FrameRef := ⟨k, s.nextFrame k⟩
  let s := (s.commitScreen k).countFrame k
  let s := if k = front then s.takeoverFrameStart else s
  let s := s.openFrame k
  let s := if k = front then s.guideFrame f else s
  let s := s.overlayFrame k f
  (s.sendFrameMarker k).restartPeriod k

/-- Whether the rows of the frame in progress are done, or there is none (R23, R24). -/
def ScreenUnit.rowsDone (u : ScreenUnit) : Bool :=
  match u.frame with
  | some f => decide (u.active.height ≤ f.nextRow)
  | none => true

/-- The entries of a queue from the line 0 nearest its head to its tail (R24). -/
def StreamRec.fromStart (r : StreamRec) : Nat := r.trim.queue.length

/-- The conditions of a LOCKED frame start (R24). -/
def State.lockedReady (s : State) : Bool :=
  let u := s.screen front
  let r := s.stream camera
  u.started && u.timing == .locked && u.rowsDone && r.state == .running && r.holdsStart &&
    decide (r.readyLevel ≤ r.fromStart)

/-- FRAME_START of a screen in FREE timing (R23, R24): when the previous frame's rows are done and one frame period has
passed since the last frame start, or there has been none (log 2). -/
def execFrameStart (k : ScreenId) (s : State) : Host.Outcome State Fault Refusal :=
  .next <|
    let u := s.screen k
    if u.started = true ∧ u.timing = .free ∧ u.rowsDone = true ∧ u.period.isDone = true then s.frameStart k
    else s

/-- LOCKED_FRAME_START of FRONT (R24). -/
def execLockedFrameStart (s : State) : Host.Outcome State Fault Refusal :=
  .next <| if s.lockedReady then s.frameStart front else s

/-! ### Pixels of a line (R31, R32) -/

/-- A byte from an integer clamped to 0 to 255. -/
def clampByte (i : Int) : Byte := BitVec.ofInt 8 (clampInt 0 255 i)

/-- An RGB565 pixel (R31, R169). -/
def rgb565 (w : Word) : RGB :=
  let r := w.toNat / 2048
  let g := w.toNat / 32 % 64
  let b := w.toNat % 32
  ⟨BitVec.ofNat 8 (r * 8 + r / 4), BitVec.ofNat 8 (g * 4 + g / 16), BitVec.ofNat 8 (b * 8 + b / 4)⟩

/-- A YCBCR422 pixel from Y, Cb and Cr (R31). -/
def ycbcr (y cb cr : Int) : RGB :=
  ⟨clampByte (y + (359 * (cr - 128) + 128) / 256),
    clampByte (y - (88 * (cb - 128) + 183 * (cr - 128) + 128) / 256),
    clampByte (y + (454 * (cb - 128) + 128) / 256)⟩

/-- The upper and the lower byte of a pixel word, as integers. -/
def upper (w : Word) : Int := (w.toNat / 256 : Nat)
def lower (w : Word) : Int := (w.toNat % 256 : Nat)

/-- The pixels of a YCBCR422 line in pairs: the even pixel carries Cb, the odd one Cr, each before its Y
(R31, R169). -/
def ycbcrLine : List Word → List RGB
  | a :: b :: rest =>
    ycbcr (lower a) (upper a) (upper b) :: ycbcr (lower b) (upper a) (upper b) :: ycbcrLine rest
  | _ => []

/-- A line converted in its own pixel order (R31). -/
def convertLine (f : PixelFormat) (ws : List Word) : List RGB :=
  match f with
  | .rgb565 => ws.map rgb565
  | .ycbcr422 => ycbcrLine ws

/-- A window column that the taken line holds no pixel for (log 18). -/
def unstatedPixel (n col : Nat) : RGB :=
  ⟨Config.unstatedColour n col 0, Config.unstatedColour n col 1, Config.unstatedColour n col 2⟩

/-- The base pixels of a window row, placed by the mirror (R32). -/
def placeLine (w : Window) (n : Nat) (line : List RGB) : List RGB :=
  (List.range w.width).map fun c =>
    line.getD (if w.mirror then w.width - 1 - c else c) (unstatedPixel n c)

/-! ### The base of a row (R29, R30) -/

/-- The window row of a screen row, when the window covers it (R26). -/
def windowRow (w : Option Window) (row : Nat) : Option (Window × Nat) :=
  match w with
  | some x => if x.top ≤ row ∧ row < x.top + x.height then some (x, row - x.top) else none
  | none => none

/-- The late lines of a window row removed from the head (R29, case 1). -/
def StreamRec.dropLate (r : StreamRec) (row : Nat) : StreamRec :=
  { r with queue := r.queue.dropWhile fun e => decide (e.line < row) }

/-- A frame record after an underrun: the hold run, and the base of the row (R29, case 3). -/
def FrameRec.underrun (f : FrameRec) (limit : Nat) : FrameRec × Option (List RGB) :=
  let run := min (f.holdRun + 1) 16
  ({ f with holdRun := run }, if run ≤ limit then f.lastRow else none)

/-- A frame record after a taken row (R29, case 2). -/
def FrameRec.taken (f : FrameRec) (base : List RGB) : FrameRec :=
  { f with lastRow := some base, holdRun := 0 }

/-- The frame record of a screen replaced. -/
def State.setFrame (s : State) (k : ScreenId) (f : FrameRec) : State :=
  s.overScreen k fun u => { u with frame := some f }

/-- A window row of a TAKING frame: taken, held or filled from the source queue (R29). The result is the
base of the window row, none for fill colour. -/
def State.takeRow (s : State) (k : ScreenId) (f : FrameRec) (j : StreamId) (w : Window) (r : Nat) :
    State × Option (List RGB) :=
  let rec' := (s.stream j).dropLate r
  match rec'.queue with
  | e :: rest =>
    if e.line = r then
      let base := placeLine w s.freeCount (convertLine rec'.format e.pixels)
      let s := (s.setStream j { rec' with queue := rest }).setFrame k (f.taken base)
      (if w.width ≤ e.pixels.length then s else s.setFreeCount (s.freeCount + 1), some base)
    else
      let (f', base) := f.underrun (s.screen k).active.holdLimit
      ((s.setStream j { rec' with underruns := count16 rec'.underruns }).setFrame k f', base)
  | [] =>
    let (f', base) := f.underrun (s.screen k).active.holdLimit
    ((s.setStream j { rec' with underruns := count16 rec'.underruns }).setFrame k f', base)

/-- The base of a screen row's window part, with the check that a TAKING frame's source still runs (R29, R30). A source
that left RUNNING and entered it again has made the frame FILL at that entry (`State.turnFrames`). -/
def State.rowBase (s : State) (k : ScreenId) (f : FrameRec) (row : Nat) : State × Option (List RGB) :=
  match windowRow f.window row, f.mode, f.source with
  | some (w, r), .taking, some j =>
    if (s.stream j).state = .running then s.takeRow k f j w r
    else (s.setFrame k { f with mode := .fill }, none)
  | _, _, _ => (s, none)

/-! ### Layers and output (R33, R36) -/

/-- The base pixel of a screen column: the window's pixel, or the fill colour. -/
def basePixel (w : Option Window) (base : Option (List RGB)) (fill : RGB) (col : Nat) : RGB :=
  match w, base with
  | some x, some ps => if x.left ≤ col ∧ col < x.left + x.width then ps.getD (col - x.left) fill else fill
  | _, _ => fill

/-- The guide pixel over a screen pixel: in a camera frame of FRONT with presentation PICTURE (R33,
R86). -/
def State.guidePixel (s : State) (k : ScreenId) (f : FrameRec) (row col : Nat) : Option RGBA :=
  match k == front && f.presentation == some .picture, f.window with
  | true, some w =>
    if w.top ≤ row ∧ w.left ≤ col then paintAt s.guide.paint (row - w.top) (col - w.left) else none
  | _, _ => none

/-- The lost image over a screen pixel (R36): centred in the camera window, inside window and screen. The descriptor
and the bytes are those that stand at the line demand (log 19). -/
def State.lostPixel (s : State) (k : ScreenId) (f : FrameRec) (row col : Nat) : Option RGBA :=
  match f.lostImage, f.window with
  | some n, some w =>
    match s.overlay.images.get n with
    | none => none
    | some d =>
      let x : Int := col - (w.left + ((w.width : Int) - d.width) / 2)
      let y : Int := row - (w.top + ((w.height : Int) - d.height) / 2)
      if withinInt 0 (d.width - 1) x && withinInt 0 (d.height - 1) y &&
          decide (w.left ≤ col ∧ col < w.left + w.width) && decide (w.top ≤ row ∧ row < w.top + w.height) then
        some (s.overlay.pixelColor k d y.toNat x.toNat)
      else none
  | _, _ => none

/-- The output pixel of a screen column (R33). -/
def State.outputPixel (s : State) (k : ScreenId) (f : FrameRec) (spans : List ActiveCopy)
    (base : Option (List RGB)) (row col : Nat) : RGB :=
  let bottom := basePixel f.window base (s.screen k).active.fill col
  let guided := blendLayer (s.guidePixel k f row col) bottom
  let drawn := spans.foldl (fun d c => blendLayer (s.overlay.objectPixel k row col c) d) guided
  blendLayer (s.lostPixel k f row col) drawn

/-- The row sent on the display link, in column order (R33). -/
def State.sendRow (s : State) (k : ScreenId) (row : Nat) (pixels : List RGB) : State :=
  s.setPorts { s.ports with display := s.ports.display.set k (some ⟨row, pixels⟩) }

/-- The next row of the frame in progress. -/
def State.advanceRow (s : State) (k : ScreenId) (row : Nat) : State :=
  s.overScreen k fun u => { u with frame := u.frame.map fun f => { f with nextRow := row + 1 } }

/-- The line demand of the next row: base, span list, layers, output (R29 to R36, R103 to R106). -/
def State.lineDemand (s : State) (k : ScreenId) (f : FrameRec) : State :=
  let row := f.nextRow
  let (s, base) := s.rowBase k f row
  let cs := s.overlay.candidates k (s.takeover.state != .normal) row
  let pixels := (List.range (s.screen k).active.width).map
    (s.outputPixel k f (spanList cs) base row)
  let s := if spanCapacity < cs.length then s.countOverflow k else s
  (s.sendRow k row pixels).advanceRow k row

/-- LINE_DEMAND (R29): the rows of a started screen's frame still to be served. -/
def execLineDemand (k : ScreenId) (s : State) : Host.Outcome State Fault Refusal :=
  .next <|
    let u := s.screen k
    match u.frame with
    | some f => if u.started = true ∧ f.nextRow < u.active.height then s.lineDemand k f else s
    | none => s

/-! ### Commands -/

/-- Whether a stream is named as normal source by another screen than `k`, in either copy (R20, R21). -/
def State.namedElsewhere (s : State) (k : ScreenId) (src : StreamId) : Bool :=
  (List.finRange 3).any fun j =>
    j != k && ((s.screen j).active.source == some src || (s.screen j).shadow.source == some src)

/-- The last check of R21: NONE, or not named by another screen. -/
def State.sourceFree (s : State) (k : ScreenId) (o : Option StreamId) : Bool :=
  match o with
  | some src => !s.namedElsewhere k src
  | none => true

/-- The own rule of WRITE SCREEN (R21). -/
def writeScreen : CommandRule := fun _ ws s =>
  match ws with
  | nr :: fields => do
    ensure (fields.length == 13) .badLength
    let k ← orFail (numberOf 3 nr) .badValue
    let r ← orFail (screenOf fields) .badValue
    ensure (s.sourceFree k r.source) .inUse
    return okay (s.overScreen k fun u => { u with shadow := r.forScreen k })
  | [] => .error .badLength

/-- The data of READ SCREEN (R22). -/
def ScreenUnit.report (u : ScreenUnit) (copy : Selector) : List Word :=
  screenWords (match copy with
    | .active => u.active
    | .shadow => u.shadow) ++
  [flagWord u.started, choiceWord timings u.timing, byteWord u.counter,
    optWord ((u.frame.bind FrameRec.shown).map Fin.val)]

/-- The own rule of READ SCREEN (R22). -/
def readScreen : CommandRule := fun _ ws s =>
  match ws with
  | [nr, sel] => do
    let k ← orFail (numberOf 3 nr) .badValue
    let copy ← orFail (choiceOf selectors sel) .badValue
    return okayWith ((s.screen k).report copy) s
  | _ => .error .badLength

/-- WRITE_SCREEN, command code 4. -/
def execWriteScreen (s : State) : Host.Outcome State Fault Refusal :=
  .next (runCommand (codeIs 4) writeScreen s)

/-- READ_SCREEN, command code 5. -/
def execReadScreen (s : State) : Host.Outcome State Fault Refusal :=
  .next (runCommand (codeIs 5) readScreen s)

end Sys2Proof.Machine
end

