-- ==== Sys2Proof/WellFormed.lean ====
section
/-! DEFINITION. When a command is the event its row names.

A packet row's frame is one of that row; a CAN frame has the shape of R41. An ill-formed command is
an event that has not occurred: it changes nothing (log 1). -/

namespace Sys2Proof

/-- The shape R41 gives a frame that reaches the unit: an identifier of 11 or 29 bits, a data length
code of 4 bits, as many data bytes as it says, at most 8, and none in a remote frame. -/
def CanFrame.wellFormed (f : CanFrame) : Bool :=
  decide (f.ident < if f.extended then 2 ^ 29 else 2 ^ 11) && decide (f.dlc ≤ 15) &&
    decide (f.data.length = if f.remote then 0 else min f.dlc 8)

/-- The check of a command as its row means it. -/
def Instr.wellFormed : Instr → Bool
  | .linePacket _ frame => (lineOf frame).isSome
  | .soundPacket frame => (soundOf frame).isSome
  | .controlPacket frame => (controlOf frame).isSome
  | .malformedFrame link frame => badOn link frame
  | .receivedCanFrame f => f.wellFormed
  | .resetLine => true
  | .cabinLinkLockAcquired => true
  | .cabinLinkLoss => true
  | .cameraLinkLock => true
  | .cameraLinkUnlock => true
  | .backChannelPacketSent => true
  | .waitingReplyEnqueue => true
  | .frameStart _ => true
  | .lockedFrameStart => true
  | .lineDemand _ => true
  | .audioBlockBoundary => true
  | .sampleInstant => true
  | .stallTimerExpiry _ => true
  | .reverseLineSample _ => true
  | .staleTimerExpiry _ => true
  | .entryDeadlineExpiry => true
  | .lingerTimerExpiry => true
  | .exitDeadlineExpiry => true
  | .flashHeaderLoad _ => true
  | .flashRecordLoad => true
  | .flashWriteComplete _ => true
  | .openStream => true
  | .closeStream => true
  | .streamStatus => true
  | .writeScreen => true
  | .readScreen => true
  | .writeSignalSettings => true
  | .writeSignalEntry => true
  | .readSignals => true
  | .writeTakeoverSettings => true
  | .startView => true
  | .stopView => true
  | .takeoverStatus => true
  | .writeGuideSettings => true
  | .writeGuideSet => true
  | .readGuideResult => true
  | .defineImage => true
  | .imageData => true
  | .freeImage => true
  | .imageInfo => true
  | .writePalette => true
  | .writeObject => true
  | .clearObject => true
  | .readObject => true
  | .openSound => true
  | .closeSound => true
  | .writeMix => true
  | .writeDuck => true
  | .audioStatus => true
  | .writePattern => true
  | .playChime => true
  | .stopChime => true
  | .chimeStatus => true
  | .writeParkRates => true
  | .commit => true
  | .commitStatus => true
  | .readTable => true
  | .saveSettings => true
  | .queryAttention => true
  | .writeAttentionEnables => true
  | .partStatus => true
  | .resetFull => true
  | .resetMedia => true
  | .unknownCommand => true

end Sys2Proof
end

