-- ==== Sys2Proof/Machine/Signals.lean ====
section
/-! DEFINITION. The Vehicle Signal Unit (chapter 3): the reverse filter, the extraction of signals from CAN
frames, the nearest distance, the reverse request, and the commands on signals. -/

namespace Sys2Proof.Machine

open Sys2Proof

/-- The Vehicle Signal Unit changed by a function. -/
def State.overSignals (s : State) (f : SignalUnit → SignalUnit) : State := s.setSignals (f s.signals)

/-! ### The reverse request (R49) -/

/-- Whether the REVERSE record is FRESH with value 1. -/
def SignalUnit.canEngaged (u : SignalUnit) : Bool :=
  let r := u.records.get Target.reverse.index
  r.state == .fresh && r.value == 1

/-- The request formed by the reverse source (R49). -/
def SignalUnit.formRequest (u : SignalUnit) : Level :=
  let engaged : Bool :=
    match u.settings.source with
    | .line => u.filter.level == .engaged
    | .can => u.canEngaged
    | .either => u.filter.level == .engaged || u.canEngaged
  if engaged then .engaged else .released

/-- The request worked out again; a change is an edge, delivered to a controller that has started. -/
def State.reworkRequest (s : State) : State :=
  let r := s.signals.formRequest
  if r = s.signals.request then s
  else
    let s := s.overSignals fun u => { u with request := r }
    if s.takeover.started then s.reverseEdge r else s

/-! ### The nearest distance (R48) -/

/-- The four DIST targets. -/
def distTargets : List Target := [.dist0, .dist1, .dist2, .dist3]

/-- The smallest of a list of numbers, if any. -/
def leastOf : List Nat → Option Nat
  | [] => none
  | n :: ns => some (ns.foldl min n)

/-- The values of the FRESH DIST records. -/
def SignalUnit.freshDistances (u : SignalUnit) : List Nat :=
  (distTargets.filter fun t => (u.records.get t.index).state == .fresh).map fun t =>
    (u.records.get t.index).value.toNat

/-- The nearest distance worked out from the DIST records (R48). -/
def SignalUnit.formNearest (u : SignalUnit) : Nearest :=
  match leastOf u.freshDistances with
  | some d => ⟨d, true⟩
  | none => ⟨1000, false⟩

/-- The nearest distance worked out again; a change is handed to the Chime Sequencer (R48, R136). -/
def State.reworkNearest (s : State) : State :=
  let n := s.signals.formNearest
  if n = s.signals.nearest then s
  else (s.overSignals fun u => { u with nearest := n }).judgePark

/-! ### From frame to value (R44) -/

/-- The raw word of an entry (R44, step 1). -/
def SignalEntry.rawWord (e : SignalEntry) (data : List Byte) : Nat :=
  let b0 := (data.getD e.startByte 0).toNat
  let b1 := (data.getD (e.startByte + 1) 0).toNat
  if e.twoBytes then
    match e.order with
    | .msbFirst => b0 * 256 + b1
    | .lsbFirst => b0 + b1 * 256
  else b0

/-- The field cut from the raw word (R44, step 2). -/
def SignalEntry.field (e : SignalEntry) (data : List Byte) : Nat :=
  e.rawWord data / 2 ^ e.bitOffset % 2 ^ e.length

/-- The sign (R44, step 3). -/
def SignalEntry.raw (e : SignalEntry) (data : List Byte) : Int :=
  let f := e.field data
  if e.signed = true ∧ 2 ^ (e.length - 1) ≤ f then (f : Int) - 2 ^ e.length else f

/-- The scale (R44, step 4). -/
def SignalEntry.scaled (e : SignalEntry) (data : List Byte) : Int :=
  e.raw data * e.multiplier / 2 ^ e.shift + e.offset

/-- The range of a target (R42). -/
def targetRange : Target → Int × Int
  | .steer => (-7800, 7800)
  | .speed => (0, 3000)
  | .dist0 => (0, 1000)
  | .dist1 => (0, 1000)
  | .dist2 => (0, 1000)
  | .dist3 => (0, 1000)
  | .reverse => (0, 1)

/-- A value clamped to a target's range (R44, step 5). -/
def clampTo (t : Target) (v : Int) : Int := clampInt (targetRange t).1 (targetRange t).2 v

/-! ### Signal records (R45, R47) -/

/-- A value applied to a record (R45, R47). -/
def SignalRec.apply (t : Target) (timeout : Nat) (scaled : Int) (r : SignalRec) : SignalRec :=
  let v := clampTo t scaled
  { value := v
    state := .fresh
    timer := Timer.startMs timeout
    clamped := r.clamped || v != scaled
    changed := r.changed || v != r.value || r.state != .fresh }

/-- A record set to NEVER (R45, R47). -/
def SignalRec.setNever (t : Target) (r : SignalRec) : SignalRec :=
  { value := restValue t
    state := .never
    timer := .stopped
    clamped := false
    changed := r.changed || r.state != .never || r.value != restValue t }

/-- Whether two records differ in value or state: a change made known to the other blocks (R47). -/
def SignalRec.differs (a b : SignalRec) : Bool := a.value != b.value || a.state != b.state

/-! ### A received CAN frame (R43) -/

/-- Whether an entry matches a frame (R43). -/
def SignalEntry.accepts (e : SignalEntry) (f : CanFrame) : Bool :=
  e.extended == f.extended && e.ident == f.ident

/-- One target's entry against a frame: applied, counted as a short frame, or untouched (R43). -/
def SignalUnit.matchTarget (f : CanFrame) (u : SignalUnit) (t : Target) : SignalUnit :=
  match u.map.get t.index with
  | none => u
  | some e =>
    if e.accepts f then
      if f.data.length < e.bytesNeeded then { u with shortFrames := count16 u.shortFrames }
      else
        { u with
          records := u.records.set t.index
            (SignalRec.apply t e.staleTimeout (e.scaled f.data) (u.records.get t.index)) }
    else u

/-- Whether a target's record changed between two states of the unit. -/
def SignalUnit.changedFrom (new old : SignalUnit) (t : Target) : Bool :=
  (new.records.get t.index).differs (old.records.get t.index)

/-- The changes of records made known, once each: SPEED, the DIST records, REVERSE (R43, R47; log 16). -/
def State.handChanges (s : State) (old : SignalUnit) : State :=
  let new := s.signals
  let s := if new.changedFrom old .speed then s.speedChanged else s
  let s := if distTargets.any (new.changedFrom old) then s.reworkNearest else s
  if new.changedFrom old .reverse then s.reworkRequest else s

/-- All matching entries of a frame applied together (R43). -/
def State.takeCanFrame (s : State) (f : CanFrame) : State :=
  (s.overSignals fun u => Target.all.foldl (SignalUnit.matchTarget f) u).handChanges s.signals

/-! ### The reverse filter (R39, R40) -/

/-- The sample of an electrical level by the polarity (R39). -/
def Polarity.sample (p : Polarity) (l : LineLevel) : Level :=
  match p, l with
  | .activeHigh, .high => .engaged
  | .activeHigh, .low => .released
  | .activeLow, .high => .released
  | .activeLow, .low => .engaged

/-- The filter after a sample (R39). -/
def ReverseFilter.take (interval : Nat) (sample : Level) (f : ReverseFilter) : ReverseFilter :=
  let timed := { f with last := sample, timer := Timer.startMs interval }
  if sample = f.level then { timed with agree := 0 }
  else if f.agree + 1 = 4 then { timed with level := sample, agree := 0 }
  else { timed with agree := f.agree + 1 }

/-- The filter at a change of the settings (R40). -/
def ReverseFilter.resettle (old new : SignalSettings) (f : ReverseFilter) : ReverseFilter :=
  { f with
    timer := if old.interval = new.interval then f.timer else Timer.startMs new.interval
    agree := if old.polarity = new.polarity then f.agree else 0 }

/-- The four signal settings replaced, with their effect on the filter (R38, R40). -/
def SignalUnit.setSettings (u : SignalUnit) (x : SignalSettings) : SignalUnit :=
  { u with settings := x, filter := u.filter.resettle u.settings x }

/-- The settings and the map of an accepted SIGNALS record applied in one step (R51). -/
def State.applySignals (s : State) (x : SignalSettings) (map : Tab (Option SignalEntry) 7) : State :=
  ((s.overSignals fun u =>
    { u.setSettings x with
      map := map
      records := Target.all.foldl
        (fun (rs : Tab SignalRec 7) (t : Target) => rs.modify t.index (SignalRec.setNever t))
        u.records }).reworkNearest).reworkRequest

/-! ### Events -/

/-- One sample of the reverse line taken into the filter; a change of the filtered level is handed to the reverse
request (R39). -/
def State.takeSample (s : State) (l : LineLevel) : State :=
  let x := s.signals.settings
  let old := s.signals.filter
  let s := s.overSignals fun u =>
    { u with filter := u.filter.take x.interval (x.polarity.sample l) }
  if s.signals.filter.level = old.level then s else s.reworkRequest

/-- REVERSE_LINE_SAMPLE (R39): taken when the sample timer has reached its time, and so not at the instant of a
write that restarted it (R40; log 2). -/
def execReverseLineSample (l : LineLevel) (s : State) : Host.Outcome State Fault Refusal :=
  .next <| if s.signals.filter.timer.isDue then s.takeSample l else s

/-- RECEIVED_CAN_FRAME (R43): a remote frame does not reach extraction (R41). -/
def execReceivedCanFrame (f : CanFrame) (s : State) : Host.Outcome State Fault Refusal :=
  .next <| if f.wellFormed = true ∧ f.remote = false then s.takeCanFrame f else s

/-- STALE_TIMER_EXPIRY (R46): when the stale timer has reached its time, and so not behind an application that
restarted it (log 2). -/
def execStaleTimerExpiry (t : Target) (s : State) : Host.Outcome State Fault Refusal :=
  .next <|
    let r := s.signal t
    if r.state = .fresh ∧ r.timer.isDue then
      ((s.overSignals fun u =>
        { u with records :=
            u.records.set t.index { r with state := .stale, timer := .stopped, changed := true } }).raise
          .signalStale (.member (t.index.castLE (by decide)))).handChanges s.signals
    else s

/-! ### Commands -/

/-- The own rule of WRITE SIGNAL SETTINGS (R38, R40, R49). -/
def writeSignalSettings : CommandRule := fun _ ws s =>
  match ws with
  | [i, p, r, b] => do
    let x ← orFail (signalSettingsOf i p r b) .badValue
    ensure (!s.saveInFlight) .busy
    return okay (s.overSignals fun u => u.setSettings x).reworkRequest
  | _ => .error .badLength

/-- A target's place in the map written or emptied, and its record set to NEVER (R42, R45). -/
def State.placeEntry (s : State) (t : Target) (e : Option SignalEntry) : State :=
  (s.overSignals fun u =>
    { u with
      map := u.map.set t.index e
      records := u.records.set t.index (SignalRec.setNever t (u.records.get t.index)) }).handChanges
    s.signals

/-- The own rule of WRITE SIGNAL ENTRY (R42): a target, then REMOVE or the twelve fields of an entry. The number of
fields tells the two forms apart, whatever the second field holds (log 11). -/
def writeSignalEntry : CommandRule := fun _ ws s =>
  match ws with
  | [tg, rm] => do
    let t ← orFail (choiceOf Target.all tg) .badValue
    ensure (rm == wordNone) .badValue
    ensure (!s.saveInFlight) .busy
    return okay (s.placeEntry t none)
  | tg :: fields => do
    ensure (fields.length == 12) .badLength
    let t ← orFail (choiceOf Target.all tg) .badValue
    let e ← orFail (signalEntryOf fields) .badValue
    ensure (!s.saveInFlight) .busy
    return okay (s.placeEntry t (some e))
  | [] => .error .badLength

/-- A target as READ SIGNALS reports it (R50). -/
def SignalUnit.targetWords (u : SignalUnit) (t : Target) : List Word :=
  let r := u.records.get t.index
  [flagWord (u.map.get t.index).isSome, intWord r.value, choiceWord signalStates r.state,
    flagWord r.clamped, flagWord r.changed]

/-- The data of READ SIGNALS (R50). -/
def SignalUnit.report (u : SignalUnit) : List Word :=
  Target.all.flatMap u.targetWords ++ nearestWords u.nearest ++
  [choiceWord levels u.filter.level, choiceWord levels u.filter.last, numWord u.filter.agree,
    choiceWord levels u.request, numWord u.shortFrames] ++ signalSettingsWords u.settings

/-- The flags of the records and the short-frame counter cleared (R50). -/
def SignalUnit.clearFlags (u : SignalUnit) : SignalUnit :=
  { u with
    records := u.records.map fun r => { r with clamped := false, changed := false }
    shortFrames := 0 }

/-- The own rule of READ SIGNALS (R50). -/
def readSignals : CommandRule := fun _ ws s =>
  match ws with
  | [cl] => do
    let clear ← orFail (flagOf cl) .badValue
    return okayWith s.signals.report (if clear then s.overSignals SignalUnit.clearFlags else s)
  | _ => .error .badLength

/-- WRITE_SIGNAL_SETTINGS, command code 6. -/
def execWriteSignalSettings (s : State) : Host.Outcome State Fault Refusal :=
  .next (runCommand (codeIs 6) writeSignalSettings s)

/-- WRITE_SIGNAL_ENTRY, command code 7. -/
def execWriteSignalEntry (s : State) : Host.Outcome State Fault Refusal :=
  .next (runCommand (codeIs 7) writeSignalEntry s)

/-- READ_SIGNALS, command code 8. -/
def execReadSignals (s : State) : Host.Outcome State Fault Refusal :=
  .next (runCommand (codeIs 8) readSignals s)

end Sys2Proof.Machine
end

