-- ==== Sys2Proof/Machine/Sound.lean ====
section
/-! DEFINITION. The Sound Mixer (chapter 7): FIFOs, flow markers, target and current gains, output samples,
the sample instant with the voices of chapter 8, and the commands on sound. -/

namespace Sys2Proof.Machine

open Sys2Proof

/-- The Sound Mixer changed by a function. -/
def State.overSound (s : State) (f : SoundUnit → SoundUnit) : State := s.setSound (f s.sound)

/-- A FIFO replaced. -/
def State.setFifo (s : State) (k : Fin 4) (f : Fifo) : State :=
  s.overSound fun u => { u with fifos := u.fifos.set k f }

/-! ### Intake (R111, R112) -/

/-- A FIFO holds up to 1,024 stereo frames (R109). -/
def fifoCapacity : Nat := 1024

/-- Frames appended as far as they fit; the flag says whether frames were left over (R112). -/
def Fifo.accept (f : Fifo) (frames : List StereoFrame) : Fifo × Bool :=
  let room := fifoCapacity - f.fill
  let kept := { f with frames := f.frames ++ frames.take room }
  if room < frames.length then ({ kept with overruns := count16 f.overruns }, true) else (kept, false)

/-- A PRIMING FIFO at or above its start level becomes RUNNING (R112). -/
def Fifo.prime (f : Fifo) : Fifo :=
  if f.state = .priming ∧ f.startLevel ≤ f.fill then { f with state := .running } else f

/-- Whether an arrival makes a PAUSE (R111). -/
def Fifo.pauses (f : Fifo) : Bool := decide (f.highMark ≤ f.fill) && !f.paused

/-- Whether a read makes a RESUME (R111). -/
def Fifo.resumes (f : Fifo) : Bool := decide (f.fill ≤ f.lowMark) && f.paused

/-- SOUND_FAULT raised for a sound stream. -/
def State.raiseSoundFault (s : State) (k : Fin 4) : State :=
  s.raise .soundFault (.member (k.castLE (by decide)))

/-- A SOUND packet at the mixer (R112). -/
def State.takeSoundPacket (s : State) (p : SoundPacket) : State :=
  let f := s.fifo p.stream
  if f.state = .closed then s.setFifo p.stream { f with strays := count16 f.strays }
  else
    let (kept, lost) := f.accept p.frames
    let ready := kept.prime
    let s := if lost then s.raiseSoundFault p.stream else s
    if ready.pauses then
      (s.setFifo p.stream { ready with paused := true }).handMarker (.flowMarker p.stream .pause)
    else s.setFifo p.stream ready

/-- SOUND_PACKET (R112, R170). -/
def execSoundPacket (frame : List Byte) (s : State) : Host.Outcome State Fault Refusal :=
  .next <|
    match soundOf frame with
    | none => s
    | some p =>
      match s.goodFrame with
      | some s' => s'.takeSoundPacket p
      | none => s

/-! ### Play-out (R111, R113) -/

/-- Silence. -/
def silentFrame : StereoFrame := ⟨0, 0⟩

/-- What a FIFO gives to the mix, and the FIFO after the read (R113). -/
def Fifo.read (f : Fifo) : StereoFrame × Fifo :=
  match f.state, f.frames with
  | .running, x :: rest => (x, { f with frames := rest })
  | .running, [] => (silentFrame, { f with state := .priming, underruns := count16 f.underruns })
  | .priming, _ => (silentFrame, f)
  | .closed, _ => (silentFrame, f)

/-- One FIFO read, with its RESUME crossing tested when its fill fell (R111, R113). -/
def State.readFifo (s : State) (k : Fin 4) : State :=
  let f := s.fifo k
  let g := f.read.2
  if g.fill < f.fill ∧ g.resumes = true then
    (s.setFifo k { g with paused := false }).handMarker (.flowMarker k .resume)
  else s.setFifo k g

/-- The sound streams, in the order in which a sample instant reads them: two RESUME markers of one instant join the
back channel in this order (log 36). -/
def soundStreams : List (Fin 4) := [0, 1, 2, 3]

/-- The ten inputs of a sample instant (R114). -/
def State.mixInputs (s : State) : List Int :=
  (soundStreams.flatMap fun k => let x := (s.fifo k).read.1; [x.left.toInt, x.right.toInt]) ++
  [s.chimes.sample 0, s.chimes.sample 1]

/-! ### Output samples (R121, R122) -/

/-- The weighted sum of the inputs into an output. -/
def mixSum (current : Gains) (xs : List Int) (o : Fin 8) : Int :=
  (List.zipWith (fun (x : Int) (row : Tab Nat 8) => x * (row.get o : Int)) xs current.toList).sum

/-- The output sample before saturation: rounded, halves up. -/
def roundSum (acc : Int) : Int := (acc + 16384) / 32768

/-- A sample saturated to 16 bits. -/
def saturate (y : Int) : Int := clampInt (-32768) 32767 y

/-- An output sample's clip flag, and CLIP when the flag was clear (R122). -/
def State.clipOutput (s : State) (y : Int) (o : Fin 8) : State :=
  if saturate y = y then s
  else
    let s' := s.overSound fun u => { u with clip := u.clip.insert o }
    if s.sound.clip.get o then s' else s'.raise .clip (.member (o.castLE (by decide)))

/-- The eight outputs in rising order. -/
def outputs : List (Fin 8) := [0, 1, 2, 3, 4, 5, 6, 7]

/-! ### The passing of a sample period (log 2) -/

/-- Every running timer of the part one sample period on. -/
def State.tickTimers (s : State) : State :=
  let s := s.setStreams (s.streams.map fun r => { r with stallTimer := r.stallTimer.tick })
  let s := s.setScreens (s.screens.map fun u => { u with period := u.period.tick })
  let s := s.setSignals { s.signals with
    filter := { s.signals.filter with timer := s.signals.filter.timer.tick }
    records := s.signals.records.map fun r => { r with timer := r.timer.tick } }
  s.setTakeover { s.takeover with
    entryTimer := s.takeover.entryTimer.tick, lingerTimer := s.takeover.lingerTimer.tick,
    exitTimer := s.takeover.exitTimer.tick }

/-- SAMPLE_INSTANT (R113, R121, R127 to R129): the inputs are taken, the FIFOs read, the voices advanced,
and the eight output samples sent with their clip flags. -/
def execSampleInstant (s : State) : Host.Outcome State Fault Refusal :=
  .next <|
    let xs := s.mixInputs
    let sums := Tab.ofFn fun o => roundSum (mixSum s.sound.current xs o)
    let s := soundStreams.foldl State.readFifo s
    let s := outputs.foldl (fun s o => s.clipOutput (sums.get o) o) s
    let s := s.setChimes (s.chimes.advanceBoth s.distance)
    let s := s.setPorts { s.ports with tdm := sums.map fun y => BitVec.ofInt 16 (saturate y) }
    s.tickTimers

/-! ### The block boundary (R118 to R120) -/

/-- The zone of an output: 0 CABIN, 1 SEAT-LEFT, 2 SEAT-RIGHT (R114). -/
def zoneOf (o : Fin 8) : Fin 3 := if o.val ≤ 3 then 0 else if o.val ≤ 5 then 1 else 2

/-- The factor on a link input into an output: the smallest that applies (R119). -/
def linkFactor (g : MixGroup) (voice normal : Bool) (reverse : Nat) (o : Fin 8) : Nat :=
  let duck := if voice && g.duckZones.get (zoneOf o) then g.duckFactor else 32768
  let cabin := if !normal && zoneOf o == 0 then reverse else 32768
  min duck cabin

/-- The target gain of an input into an output (R119). -/
def targetGain (g : MixGroup) (voice normal : Bool) (reverse : Nat) (i : Fin 10) (o : Fin 8) : Nat :=
  let gain := (g.gains.get i).get o
  if i.val ≤ 7 then (gain * linkFactor g voice normal reverse o + 16384) / 32768 else gain

/-- A current gain moved toward its target by the ramp step (R120). -/
def rampGain (step c t : Nat) : Nat := if c < t then min (c + step) t else max (c - step) t

/-- Steps 2 to 4 of R118: the readings, the target gains, the current gains. -/
def SoundUnit.moveGains (u : SoundUnit) (voiceA voiceB normal : Bool) (reverse : Nat) : SoundUnit :=
  let t : Gains := Tab.ofFn fun i => Tab.ofFn fun o =>
    targetGain u.active (voiceA || voiceB) normal reverse i o
  { u with
    sawVoiceA := voiceA, sawVoiceB := voiceB, sawNormal := normal, targets := t
    current := Tab.ofFn fun i => Tab.ofFn fun o =>
      rampGain u.active.rampStep ((u.current.get i).get o) ((t.get i).get o) }

/-- Step 1 of R118: a pending MIX item applied. -/
def State.applyMix (s : State) : State :=
  match s.released .mix with
  | some i => (s.overSound fun u => { u with active := u.shadow }).leave .mix i .applied none
  | none => s

/-- AUDIO_BLOCK_BOUNDARY (R118). The row is the boundary wherever it stands: the samples since the last boundary are
not counted (log 2). -/
def execAudioBlockBoundary (s : State) : Host.Outcome State Fault Refusal :=
  .next <|
    let s := s.applyMix
    s.overSound fun u =>
      u.moveGains (s.chimes.playing 0) (s.chimes.playing 1) (s.takeover.state == .normal)
        s.takeover.settings.attenuation

/-! ### Commands -/

/-- A FIFO as OPEN SOUND leaves it (R110). -/
def Fifo.opened (f : Fifo) (start high low : Nat) : Fifo :=
  { f with
    state := .priming, frames := [], startLevel := start, highMark := high, lowMark := low,
    paused := false, overruns := 0, underruns := 0, strays := 0 }

/-- The second check of OPEN SOUND (R109, R110). -/
def marksValid (start high low : Nat) : Bool :=
  within 1 1024 start && within 1 1024 high && within 0 1023 low && decide (low < high) &&
    decide (start ≤ high)

/-- The own rule of OPEN SOUND (R110). -/
def openSound : CommandRule := fun _ ws s =>
  match ws with
  | [nr, st, hi, lo] => do
    let k ← orFail (numberOf 4 nr) .badValue
    ensure (marksValid st.toNat hi.toNat lo.toNat) .badValue
    ensure ((s.fifo k).state == .closed) .inUse
    return okay (s.setFifo k ((s.fifo k).opened st.toNat hi.toNat lo.toNat))
  | _ => .error .badLength

/-- A sound stream closed; one already CLOSED is left as it is (R110). -/
def Fifo.close (f : Fifo) : Fifo :=
  if f.state = .closed then f else { f with state := .closed, frames := [], paused := false }

/-- The own rule of CLOSE SOUND (R110). -/
def closeSound : CommandRule := fun _ ws s =>
  match ws with
  | [nr] => do
    let k ← orFail (numberOf 4 nr) .badValue
    return okay (s.setFifo k (s.fifo k).close)
  | _ => .error .badLength

/-- Gains written into a row from an output on (R116). -/
def writeGains (row : Tab Nat 8) (first : Nat) (gs : List Nat) : Tab Nat 8 :=
  Tab.ofFn fun o => if first ≤ o.val then gs.getD (o.val - first) (row.get o) else row.get o

/-- The own rule of WRITE MIX (R116). -/
def writeMix : CommandRule := fun _ ws s =>
  match ws with
  | inp :: first :: cnt :: gains => do
    let i ← orFail (numberOf 10 inp) .badValue
    ensure (within 1 8 cnt.toNat && decide (first.toNat + cnt.toNat ≤ 8)) .badValue
    ensure (gains.length == cnt.toNat) .badLength
    let clamped := (gains.filter fun w => decide (32768 < w.toNat)).length
    return okayWith [numWord clamped]
      (s.overSound fun u => { u with shadow := { u.shadow with
        gains := u.shadow.gains.modify i fun row => writeGains row first.toNat (gains.map gainOf) } })
  | _ => .error .badLength

/-- The own rule of WRITE DUCK (R117). -/
def writeDuck : CommandRule := fun _ ws s =>
  match ws with
  | [ramp, duck, zones] => do
    let g ← orFail (duckOf s.sound.shadow ramp duck zones) .badValue
    return okay (s.overSound fun u => { u with shadow := g })
  | _ => .error .badLength

/-- A FIFO as AUDIO STATUS reports it (R123). -/
def fifoWords (f : Fifo) : List Word :=
  [choiceWord fifoStates f.state, numWord f.fill, numWord f.startLevel, numWord f.highMark,
    numWord f.lowMark, flagWord f.paused, numWord f.overruns, numWord f.underruns, numWord f.strays]

/-- The data of AUDIO STATUS (R123). -/
def SoundUnit.report (u : SoundUnit) (copy : Selector) : List Word :=
  u.fifos.toList.flatMap fifoWords ++
  mixWords (match copy with
    | .active => u.active
    | .shadow => u.shadow) ++
  gainsWords u.current ++ gainsWords u.targets ++
  [flagWord u.sawVoiceA, flagWord u.sawVoiceB, flagWord u.sawNormal] ++ u.clip.toList.map flagWord

/-- The clip flags cleared and the counters of the FIFOs set to 0 (R123). -/
def SoundUnit.clearStatus (u : SoundUnit) : SoundUnit :=
  { u with
    clip := FlagSet.empty 8
    fifos := u.fifos.map fun f => { f with overruns := 0, underruns := 0, strays := 0 } }

/-- The own rule of AUDIO STATUS (R123). -/
def audioStatus : CommandRule := fun _ ws s =>
  match ws with
  | [sel, cl] => do
    let copy ← orFail (choiceOf selectors sel) .badValue
    let clear ← orFail (flagOf cl) .badValue
    return okayWith (s.sound.report copy) (if clear then s.overSound SoundUnit.clearStatus else s)
  | _ => .error .badLength

/-- OPEN_SOUND, command code 24. -/
def execOpenSound (s : State) : Host.Outcome State Fault Refusal :=
  .next (runCommand (codeIs 24) openSound s)

/-- CLOSE_SOUND, command code 25. -/
def execCloseSound (s : State) : Host.Outcome State Fault Refusal :=
  .next (runCommand (codeIs 25) closeSound s)

/-- WRITE_MIX, command code 26. -/
def execWriteMix (s : State) : Host.Outcome State Fault Refusal :=
  .next (runCommand (codeIs 26) writeMix s)

/-- WRITE_DUCK, command code 27. -/
def execWriteDuck (s : State) : Host.Outcome State Fault Refusal :=
  .next (runCommand (codeIs 27) writeDuck s)

/-- AUDIO_STATUS, command code 28. -/
def execAudioStatus (s : State) : Host.Outcome State Fault Refusal :=
  .next (runCommand (codeIs 28) audioStatus s)

end Sys2Proof.Machine
end

