-- ==== Sys2Proof/Machine/Startup.lean ====
section
/-! DEFINITION. The Start-up Loader (chapter 11, R171, R172): the walk over the settings flash, the content
of every record both ways, and SAVE SETTINGS. -/

namespace Sys2Proof.Machine

open Sys2Proof

/-! ### Record frames (R171) -/

/-- The header's magic and format version (R171). -/
def headerStart : List Byte := [0x46#8, 0x56#8, 0x32#8, 0x31#8, 0#8, 1#8]

/-- The largest record count of a good header (R163). -/
def maxRecords : Nat := 18

/-- The record count of eight header bytes, when the header is good (R163). -/
def headerCount : List Byte → Option Nat
  | [a, b, c, d, v, w, h, l] =>
    if [a, b, c, d, v, w] = headerStart ∧ nat16 h l ≤ maxRecords then some (nat16 h l) else none
  | _ => none

/-- The header with a record count. -/
def headerBytes (count : Nat) : List Byte := headerStart ++ bytesOfWord (numWord count)

/-- The record frames follow the header from this address (R171). -/
def firstRecord : Nat := 8

/-- Bytes of a frame around its content (R171). -/
def frameOverhead : Nat := 9

/-- A number of four bytes, most significant first. -/
def nat32 : List Byte → Nat
  | [a, b, c, d] => nat16 a b * 65536 + nat16 c d
  | _ => 0

/-- The kind, length and content part of a frame. -/
def frameBody (kind : Nat) (content : List Byte) : List Byte :=
  BitVec.ofNat 8 kind :: bytesOf32 (BitVec.ofNat 32 content.length) ++ content

/-- A record frame with its CRC-32 (R171, R172). -/
def recordFrame (kind : Nat) (content : List Byte) : List Byte :=
  frameBody kind content ++ bytesOf32 (crc32 (frameBody kind content))

/-! ### Content of records: from a table to bytes (R166, R171) -/

/-- The signal settings and map. -/
def signalsContent (u : SignalUnit) : List Word :=
  signalSettingsWords u.settings ++ u.map.toList.flatMap fun o => optionalWords (o.map signalEntryWords)

/-- The general fields, and the sets 0 to n - 1. -/
def guideContent (g : GuideTable) : List Word :=
  guideGeneralWords g ++ g.keyed.flatMap guideSetWords

/-- The bytes of four palettes. -/
def palettesContent (p : Palettes) : List Byte :=
  p.toList.flatMap fun t => t.toList.flatMap fun e => [e.r, e.g, e.b, e.a]

/-- The WRITTEN patterns with their numbers, in ascending pattern number; R166 and R171 name no order (log 13). -/
def writtenPatterns (t : Tab (Option Pattern) 16) : List (Fin 16 × Pattern) :=
  (List.finRange 16).filterMap fun p => (t.get p).map fun x => (p, x)

/-- The count of patterns, and each with its number. -/
def patternsContent (t : Tab (Option Pattern) 16) : List Word :=
  numWord (writtenPatterns t).length ::
    (writtenPatterns t).flatMap fun x => numWord x.1.val :: patternWords x.2

/-- The number of image 120 + k. -/
def flashImage (k : Fin 8) : Fin 128 := ⟨120 + k.val, by omega⟩

/-- The image number, the descriptor fields and the image bytes, padded to an even number. -/
def imageContent (u : OverlayUnit) (n : Fin 128) : List Byte :=
  match u.images.get n with
  | none => []
  | some d =>
    bytesOfWords [numWord n.val, numWord d.width, numWord d.height, choiceWord indexFormats d.format,
      numWord d.palette.val] ++
    ((List.range d.size).map (u.imageByte d)) ++ List.replicate (d.size % 2) 0#8

/-- The content of a record as its table stands (R166). -/
def State.recordContent (s : State) : SaveItem → List Byte
  | .single .takeover => bytesOfWords (takeoverWords s.takeover.settings)
  | .single .signals => bytesOfWords (signalsContent s.signals)
  | .single .screenFront => bytesOfWords (screenWords (s.screen 0).active)
  | .single .guide => bytesOfWords (guideContent s.guide.active)
  | .single .palettes => palettesContent (s.overlay.screens.get front).palettes
  | .single .patterns => bytesOfWords (patternsContent s.chimes.patterns)
  | .single .parkRates => bytesOfWords (parkWords s.chimes.rates)
  | .single .mix => bytesOfWords (mixWords s.sound.active)
  | .single .screenRearLeft => bytesOfWords (screenWords (s.screen 1).active)
  | .single .screenRearRight => bytesOfWords (screenWords (s.screen 2).active)
  | .image k => imageContent s.overlay (flashImage k)

/-- The kind code of a record (R171). -/
def SaveItem.kindCode : SaveItem → Nat
  | .single k => k.place + 1
  | .image _ => 6

/-- The frame of a record as its table stands. -/
def State.recordBytes (s : State) (i : SaveItem) : List Byte :=
  recordFrame i.kindCode (s.recordContent i)

/-! ### The results of the walk (R162 to R164) -/

/-- The result of a single kind set. -/
def State.setSingle (s : State) (k : SingleKind) (r : RecordResult) : State :=
  s.setLoader { s.loader with singles := s.loader.singles.set k.index r }

/-- The result of an image set. -/
def State.setImage (s : State) (k : Fin 8) (r : RecordResult) : State :=
  s.setLoader { s.loader with images := s.loader.images.set k r }

/-- Images not yet handled become ABSENT (R163). -/
def State.absentImages (s : State) : State :=
  s.setLoader { s.loader with
    images := s.loader.images.map fun r => if r = .notRead then .absent else r }

/-- START_UP_FAULT raised for a single kind. -/
def State.faultKind (s : State) (k : SingleKind) : State :=
  s.raiseStartUpFault (BitVec.ofNat 4 k.place).toFin

/-- START_UP_FAULT raised for the kind IMAGE, place 5 of R171. -/
def State.faultImage (s : State) : State := s.raiseStartUpFault 5

/-- A Screen Assembler starts (R23). -/
def State.startScreen (s : State) (k : ScreenId) : State :=
  s.overScreen k fun u => { u with started := true }

/-- The start action of a kind whose record was rejected or is absent (R164, R72). -/
def State.startAction (s : State) : SingleKind → State
  | .takeover => s.startTakeover TakeoverSettings.reset
  | .signals => s
  | .screenFront => s.startScreen 0
  | .guide => s
  | .palettes => s
  | .patterns => s
  | .parkRates => s.judgePark
  | .mix => s
  | .screenRearLeft => s.startScreen 1
  | .screenRearRight => s.startScreen 2

/-- A single kind not applied: its result, its start action, and its place in START_UP_FAULT (R163,
R164). -/
def State.passKind (r : RecordResult) (s : State) (k : SingleKind) : State :=
  ((s.setSingle k r).startAction k).faultKind k

/-- The single kinds from place `lo` up to place `hi`, `hi` apart. -/
def kindsBetween (lo hi : Nat) : List SingleKind :=
  SingleKind.all.filter fun k => decide (lo ≤ k.place) && decide (k.place < hi)

/-- The place of IMAGE among the eleven kinds, and the place past the last. -/
def imagePlace : Nat := 5
def pastPlace : Nat := 11

/-- The load position set to a place. -/
def State.moveTo (s : State) (place : Nat) : State :=
  s.setLoader { s.loader with position := .expecting place }

/-- The kinds from the load position up to place `hi` passed over as ABSENT, with the images when IMAGE is
passed (R163). -/
def State.passTo (s : State) (lo hi : Nat) : State :=
  let s := (kindsBetween lo imagePlace |>.filter fun k => decide (k.place < hi)).foldl
    (State.passKind .absent) s
  let s := if lo ≤ imagePlace ∧ imagePlace < hi then s.absentImages else s
  ((kindsBetween (max lo (imagePlace + 1)) hi).foldl (State.passKind .absent) s)

/-- The walk reaches DONE, every single kind from the load position on with the same result, and the part
is READY (R153, R163). No record frame is left to read, so records left is 0, also after a frame that cannot be
passed (log 14). -/
def State.finishLoading (s : State) (lo : Nat) (r : RecordResult) : State :=
  let s := ((kindsBetween lo pastPlace).foldl (State.passKind r) s).absentImages
  let s := s.setLoader { s.loader with position := .done, recordsLeft := 0 }
  s.setInterp { s.interp with startUp := .ready }

/-- After a record: DONE when none is left, otherwise the load position given (R163). -/
def State.continueAt (s : State) (place : Nat) : State :=
  if s.loader.recordsLeft = 0 then s.finishLoading place .absent else s.moveTo place

/-! ### FLASH_HEADER_LOAD (R163) -/

/-- FLASH_HEADER_LOAD (R162, R163). A flash that does not answer is treated as a bad header. -/
def execFlashHeaderLoad (answers : Bool) (s : State) : Host.Outcome State Fault Refusal :=
  .next <|
    if s.loader.position = .header then
      match (if answers then headerCount (s.flash.readBytes flashDefault 0 8) else none) with
      | none => s.finishLoading 0 .rejected
      | some n =>
        (s.setLoader { s.loader with recordsLeft := n, readAddr := firstRecord }).continueAt 0
    else s

/-! ### Content of records: from bytes to a table (R164, R171) -/

/-- Signal map places, each with its presence field. -/
def mapPlaces : Nat → List Word → Option (List (Option SignalEntry) × List Word)
  | 0, ws => some ([], ws)
  | n + 1, ws =>
    match splitOptional 12 ws with
    | .ok (o, rest) => do
      let e ← optionalOf signalEntryOf o
      let (es, rest') ← mapPlaces n rest
      return (e :: es, rest')
    | .error _ => none

/-- The seven places as a table. -/
def mapTable (es : List (Option SignalEntry)) : Tab (Option SignalEntry) 7 :=
  Tab.ofFn fun i => (es.getD i.val none)

/-- The sets of a GUIDE record. -/
def recordSets : Nat → List Word → Option (List GuideSet × List Word)
  | 0, ws => some ([], ws)
  | n + 1, ws =>
    match splitGuideSet ws with
    | .ok (g, rest) =>
      if g.valid then do
        let (gs, rest') ← recordSets n rest
        return (g :: gs, rest')
      else none
    | .error _ => none

/-- The table of a GUIDE record, with the ranges of R73 and the validation of R76. -/
def guideRecord (ws : List Word) : Option GuideTable := do
  let general ← guideGeneralOf GuideTable.reset (ws.take 19)
  let (sets, rest) ← recordSets general.setCount (ws.drop 19)
  let g := { general with sets := Tab.ofFn fun i => sets[i.val]? }
  if rest.isEmpty && g.valid then some g else none

/-- Colours of four bytes each. -/
def byteColors : List Byte → List RGBA
  | r :: g :: b :: a :: rest => ⟨r, g, b, a⟩ :: byteColors rest
  | _ => []

/-- The four palettes of a PALETTES record of 4,096 bytes. -/
def palettesRecord (bs : List Byte) : Option Palettes :=
  if bs.length = 4096 then
    let cs := byteColors bs
    some (Tab.ofFn fun p => Tab.ofFn fun i => cs.getD (256 * p.val + i.val) ⟨0, 0, 0, 0⟩)
  else none

/-- The patterns of a PATTERNS record. -/
def recordPatterns : Nat → List Word → Option (List (Fin 16 × Pattern))
  | 0, ws => if ws.isEmpty then some [] else none
  | n + 1, ws =>
    match ws with
    | [] => none
    | nr :: rest =>
      match splitPattern rest with
      | .ok (steps, tail, rest') => do
        let p ← numberOf 16 nr
        let (x, _) ← patternOf p steps tail
        let xs ← recordPatterns n rest'
        return (p, x) :: xs
      | .error _ => none

/-- The MIX group of a MIX record: 80 gains clamped, ramp step, duck factor, duck zones. -/
def mixRecord (ws : List Word) : Option MixGroup :=
  match ws.drop 80 with
  | [ramp, duck, zones] => duckOf { MixGroup.reset with gains := gainsOf (ws.take 80) } ramp duck zones
  | _ => none

/-- The image number of an IMAGE record's content, when it holds one. -/
def imageNumber : List Byte → Option Nat
  | h :: l :: _ => some (nat16 h l)
  | _ => none

/-- The shape and the bytes of an IMAGE record (R164, R171). -/
def imageRecord (bs : List Byte) : Option (Fin 8 × ImageShape × List Byte) :=
  match wordsOfBytes (bs.take 10) with
  | some [nr, w, h, f, p] => do
    let k ← if within 120 127 nr.toNat then numberOf 8 (nr - 120#16) else none
    let x ← imageShapeOf w h f p
    let size := imageSize x.width x.height x.format
    if bs.length = 10 + size + size % 2 then some (k, x, (bs.drop 10).take size) else none
  | _ => none

/-! ### Applying an accepted record (R164) -/

/-- A screen record applied to both copies, and its assembler started. -/
def State.applyScreen (s : State) (k : ScreenId) (r : ScreenRecord) : State :=
  (s.overScreen k fun u => { u with active := r.forScreen k, shadow := r.forScreen k }).startScreen k

/-- A SCREEN record: R21's checks, with the IN_USE check as the other screens stand (R164). -/
def State.screenRecord (s : State) (k : ScreenId) (ws : List Word) : Option State := do
  let r ← screenOf ws
  if s.sourceFree k r.source then some (s.applyScreen k r) else none

/-- The table of a single kind's record applied, with its start action; none where a check fails. A PATTERNS record may
hold any count of patterns and a pattern more than once: the later content stands (log 13). -/
def State.applyRecord (s : State) (k : SingleKind) (content : List Byte) : Option State := do
  match k with
  | .palettes =>
    let p ← palettesRecord content
    some (s.setOverlay { s.overlay with
      shadowPalettes := p, screens := s.overlay.screens.map fun sc => { sc with palettes := p } })
  | .takeover =>
    let ws ← wordsOfBytes content
    let t ← (takeoverOf ws).toOption
    some (s.startTakeover t)
  | .signals =>
    let ws ← wordsOfBytes content
    match ws with
    | i :: p :: r :: b :: rest =>
      let x ← signalSettingsOf i p r b
      let (es, rest') ← mapPlaces 7 rest
      if rest'.isEmpty then some (s.applySignals x (mapTable es)) else none
    | _ => none
  | .screenFront =>
    let ws ← wordsOfBytes content
    s.screenRecord 0 ws
  | .screenRearLeft =>
    let ws ← wordsOfBytes content
    s.screenRecord 1 ws
  | .screenRearRight =>
    let ws ← wordsOfBytes content
    s.screenRecord 2 ws
  | .guide =>
    let ws ← wordsOfBytes content
    let g ← guideRecord ws
    some (s.setGuide { s.guide with active := g, shadow := g })
  | .patterns =>
    let ws ← wordsOfBytes content
    match ws with
    | n :: rest =>
      let xs ← recordPatterns n.toNat rest
      some (s.setChimes { s.chimes with
        patterns := xs.foldl
          (fun (t : Tab (Option Pattern) 16) (x : Fin 16 × Pattern) => t.set x.1 (some x.2))
          s.chimes.patterns })
    | [] => none
  | .parkRates =>
    let ws ← wordsOfBytes content
    let r ← (parkOf ws).toOption
    some (s.setChimes { s.chimes with rates := r }).judgePark
  | .mix =>
    let ws ← wordsOfBytes content
    let g ← mixRecord ws
    some (s.overSound fun u => { u with active := g, shadow := g })

/-- An IMAGE record applied: the taking of R92, then its bytes; none where a check fails (R164). -/
def State.applyImage (s : State) (content : List Byte) : Option State := do
  let (k, x, bytes) ← imageRecord content
  let n := flashImage k
  let need := pagesFor (imageSize x.width x.height x.format)
  if need ≤ s.overlay.freePages.length then
    let u := s.overlay.define n x
    let d ← u.images.get n
    some (s.setOverlay (u.writeImage d 0 bytes))
  else none

/-! ### FLASH_RECORD_LOAD (R163, R164, R172) -/

/-- A record frame read from the flash (R171). -/
structure RawRecord where
  kind : Nat
  content : List Byte
  crcGood : Bool

/-- The content length at the read address. -/
def State.recordLength (s : State) : Nat :=
  nat32 (s.flash.readBytes flashDefault (s.loader.readAddr + 1) 4)

/-- Whether the frame would pass the end of the region (R172). -/
def State.recordTooLong (s : State) : Bool :=
  decide (flashSize < s.loader.readAddr + frameOverhead + s.recordLength)

/-- The frame at the read address. -/
def State.rawRecord (s : State) : RawRecord :=
  let a := s.loader.readAddr
  let n := s.recordLength
  let body := s.flash.readBytes flashDefault a (5 + n)
  { kind := (s.flash.read flashDefault a).toNat
    content := body.drop 5
    crcGood := s.flash.readBytes flashDefault (a + 5 + n) 4 == bytesOf32 (crc32 body) }

/-- A record rejected: its result, its start action and its fault (R164). -/
def State.loadSingle (s : State) (k : SingleKind) (r : RawRecord) : State :=
  match (if r.crcGood then s.applyRecord k r.content else none) with
  | some s' => s'.setSingle k .accepted
  | none => s.passKind .rejected k

/-- A record of a single kind: skipped when it is earlier or repeated, otherwise checked (R163). -/
def State.handleSingle (s : State) (pos : Nat) (k : SingleKind) (r : RawRecord) : State :=
  if k.place < pos then (s.faultKind k).continueAt pos
  else ((s.passTo pos k.place).loadSingle k r).continueAt (k.place + 1)

/-- The slot of an image number in the record result set. -/
def imageSlot (n : Nat) : Option (Fin 8) :=
  if h : 120 ≤ n ∧ n ≤ 127 then some ⟨n - 120, by omega⟩ else none

/-- The slot and the number last read after an IMAGE record was checked (R163, R164). -/
def State.markImage (s : State) (o : Option Nat) (r : RecordResult) : State :=
  match o.bind imageSlot with
  | some k =>
    let s := s.setImage k r
    s.setLoader { s.loader with lastImage := o }
  | none => s

/-- An IMAGE record accepted or rejected (R164). -/
def State.loadImage (s : State) (r : RawRecord) : State :=
  match (if r.crcGood then s.applyImage r.content else none) with
  | some s' => s'.markImage (imageNumber r.content) .accepted
  | none => (s.markImage (imageNumber r.content) .rejected).faultImage

/-- Whether an image number is not above the last one read (R163). -/
def State.imageRepeats (s : State) (o : Option Nat) : Bool :=
  match s.loader.lastImage, o with
  | some last, some n => decide (n ≤ last)
  | _, _ => false

/-- An IMAGE record: skipped when IMAGE is past or its number is not above the last one read, otherwise
checked (R163). -/
def State.handleImage (s : State) (pos : Nat) (r : RawRecord) : State :=
  if imagePlace < pos then s.faultImage.continueAt pos
  else if s.imageRepeats (imageNumber r.content) then s.faultImage.continueAt pos
  else ((s.passTo pos imagePlace).loadImage r).continueAt imagePlace

/-- The single kind of a kind code (R171). -/
def kindOfCode (code : Nat) : Option SingleKind := SingleKind.all.find? fun k => k.place + 1 == code

/-- A frame that can be passed: handled by its kind (R163, R172). -/
def State.handleRecord (s : State) (pos : Nat) (r : RawRecord) : State :=
  if r.kind = 6 then s.handleImage pos r
  else
    match kindOfCode r.kind with
    | some k => s.handleSingle pos k r
    | none => s.continueAt pos

/-- The read address moved to the end of the frame, and one record fewer left (R162, R172). -/
def State.passFrame (s : State) : State :=
  s.setLoader { s.loader with
    readAddr := s.loader.readAddr + frameOverhead + s.recordLength
    recordsLeft := s.loader.recordsLeft - 1 }

/-- FLASH_RECORD_LOAD (R163, R164, R172). -/
def execFlashRecordLoad (s : State) : Host.Outcome State Fault Refusal :=
  .next <|
    match s.loader.position with
    | .expecting pos =>
      if s.recordTooLong then s.finishLoading pos .rejected
      else s.passFrame.handleRecord pos s.rawRecord
    | .header => s
    | .done => s

/-! ### SAVE SETTINGS (R165, R166) -/

/-- The DEFINED images among 120 to 127, in ascending order. -/
def State.savedImages (s : State) : List (Fin 8) :=
  (List.finRange 8).filter fun k => s.overlay.defined (flashImage k)

/-- The records that a save writes, in the order of R162. -/
def State.saveItems (s : State) : List SaveItem :=
  ([.takeover, .signals, .screenFront, .guide, .palettes] : List SingleKind).map SaveItem.single ++
  s.savedImages.map SaveItem.image ++
  ([.patterns, .parkRates, .mix, .screenRearLeft, .screenRearRight] : List SingleKind).map
    SaveItem.single

/-- The pages the DEFINED images among 120 to 127 hold together (R165). -/
def State.savedPages (s : State) : Nat :=
  (s.savedImages.map fun k => (pagesOf (s.overlay.images.get (flashImage k))).length).sum

/-- The bytes of the header and of every record that a save would write (R165). -/
def State.saveSize (s : State) : Nat :=
  firstRecord + (s.saveItems.map fun i => frameOverhead + (s.recordContent i).length).sum

/-- The own rule of SAVE SETTINGS (R165). -/
def saveSettings : CommandRule := noParameters fun s => do
  ensure (!s.saveInFlight) .busy
  ensure (decide (s.savedPages ≤ 512)) .noRoom
  ensure (decide (s.saveSize ≤ flashSize)) .noRoom
  return ⟨.started, [], s.setLoader { s.loader with
    saveStep := .erase, saveAddr := 0, saveTodo := s.saveItems }⟩

/-- SAVE_SETTINGS, command code 37. -/
def execSaveSettings (s : State) : Host.Outcome State Fault Refusal :=
  .next (runCommand (codeIs 37) saveSettings s)

/-! ### The steps of a save (R166, R167) -/

/-- Free bytes that a cut write left (R167, log 7). -/
def cutBytes (n len : Nat) : List Byte := (List.range len).map (Config.cutByte n)

/-- A header that a cut step left: free bytes, but never a good header (R167). -/
def cutHeader (n : Nat) : List Byte :=
  if (headerCount (cutBytes n 8)).isSome then List.replicate 8 flashDefault else cutBytes n 8

/-- A record that a cut step left: an erased area, or its kind and its whole length with free content and a CRC that
is wrong (R167). A length of which only some bytes were written does not occur (log 7). -/
def cutRecord (n : Nat) (bytes : List Byte) : List Byte :=
  if Config.cutLeavesErased n then []
  else
    let len := bytes.length - frameOverhead
    let body := bytes.take 5 ++ cutBytes n len
    let check := ((List.range 4).map fun i => Config.cutByte n (len + i))
    body ++ (if check = bytesOf32 (crc32 body) then check.map (~~~ ·) else check)

/-- The flash as a step that failed or was cut leaves it (R167). R167 says of an ERASE only that no good header is
left; behind the header's place the region is then erased (log 7). -/
def State.cutStep (s : State) : State :=
  let used := s.setFreeCount (s.freeCount + 1)
  match s.loader.saveStep with
  | .none => s
  | .erase => (used.setFlash []).writeFlash 0 (cutHeader s.freeCount)
  | .header _ => used.writeFlash 0 (cutHeader s.freeCount)
  | .record _ bytes => used.writeFlash s.loader.saveAddr (cutRecord s.freeCount bytes)

/-- The save ends: no step under way, and SAVE_DONE with OK 0 or FAILED 1 (R154, R166). -/
def State.endSave (s : State) (outcome : Fin 16) : State :=
  (s.setLoader { s.loader with saveStep := .none, saveAddr := 0, saveTodo := [] }).raise .saveDone
    (.member outcome)

/-- The next record's step begins, its bytes formed from the table as it stands; without one the save ends
with OK (R166). -/
def State.nextRecord (s : State) : State :=
  match s.loader.saveTodo with
  | i :: rest =>
    s.setLoader { s.loader with saveStep := .record i (s.recordBytes i), saveTodo := rest }
  | [] => s.endSave 0

/-- The save address moved behind what has been written. -/
def State.saveMoved (s : State) (addr : Nat) : State :=
  s.setLoader { s.loader with saveAddr := addr }

/-- A step that ended well (R166). -/
def State.stepDone (s : State) : State :=
  match s.loader.saveStep with
  | .none => s
  | .erase =>
    let s := s.setFlash []
    s.setLoader { s.loader with saveStep := .header (headerBytes s.loader.saveTodo.length) }
  | .header bytes => ((s.writeFlash 0 bytes).saveMoved firstRecord).nextRecord
  | .record _ bytes =>
    ((s.writeFlash s.loader.saveAddr bytes).saveMoved (s.loader.saveAddr + bytes.length)).nextRecord

/-- FLASH_WRITE_COMPLETE (R166): a step of the save under way has ended and its read-back is checked. -/
def execFlashWriteComplete (o : FlashOutcome) (s : State) : Host.Outcome State Fault Refusal :=
  .next <|
    if s.saveInFlight then
      match o with
      | .matched => s.stepDone
      | .reportedFailure => s.cutStep.endSave 1
      | .readBackDiffers => s.cutStep.endSave 1
    else s

end Sys2Proof.Machine
end

