-- ==== Sys2Proof/Machine/Resets.lean ====
section
/-! DEFINITION. The three resets (R19, R37, R51, R72, R89, R107, R108, R124, R138, R139, R148, R160 to R162,
R167, R170). -/

namespace Sys2Proof.Machine

open Sys2Proof

/-- The state after the reset line: everything at its reset value, but for the settings flash, where a save
under way is cut, and the model's own free-value index and queue of commands. -/
def State.resetLine (s : State) : State :=
  ((State.reset.setFlash s.cutStep.flash).setFreeCount s.cutStep.freeCount).setPending s.pending

/-- RESET_LINE (R162, R167). -/
def execResetLine (s : State) : Host.Outcome State Fault Refusal := .next s.resetLine

/-- The state after a FULL reset: as the reset line leaves it, with the cabin link lock, the error counter,
the back channel and the camera link lock kept (R160, R170; log 20). -/
def State.fullReset (s : State) : State :=
  ((s.resetLine.setLink s.link).setCameraLocked s.cameraLocked).setPorts
    { Ports.reset with backFrame := s.ports.backFrame }

/-- The four groups whose items a MEDIA reset drops (R148). -/
def mediaGroups : List Group := [.screenRearLeft, .screenRearRight, .objects, .palettes]

/-- The effects of a MEDIA reset on each owner (R161). -/
def State.mediaReset (s : State) : State :=
  let s := cabinStreams.foldl State.closeStream s
  let s := s.overSound fun u => { u with fifos := u.fifos.map Fifo.close }
  let s := s.setOverlay s.overlay.mediaReset
  let s := s.setChimes (s.chimes.mediaReset s.distance)
  mediaGroups.foldl State.dropItem s

/-- The parameters of RESET FULL and of RESET MEDIA: one field, 0 and 1 (R160, R169). -/
def fullParams : List Byte := [0#8, 0#8]
def mediaParams : List Byte := [0#8, 1#8]

/-- The own rule of RESET up to the reset itself: the kind, and REVERSE_HELD for FULL while REVERSE is
claimed (R160). -/
def resetRule (media : State → State) : CommandRule := fun _ ws s =>
  match ws with
  | [kind] =>
    if kind.toNat = 0 then
      if s.takeover.reverse then .error .reverseHeld else .ok (okay s)
    else if kind.toNat = 1 then .ok (okay (media s))
    else .error .badValue
  | _ => .error .badLength

/-- RESET_FULL, command code 41 (R160): the reply OK is handed to the back channel, and the reset then acts.
The row executes every RESET but one of kind MEDIA (log 3). -/
def execResetFull (s : State) : Host.Outcome State Fault Refusal :=
  .next <|
    match s.headCommand with
    | some p =>
      if codeIs 41 p ∧ p.params ≠ mediaParams then
        let a := answerOf (resetRule id) p s.popCommand
        if a.result = .ok then (conclude p a).fullReset else conclude p a
      else s
    | none => s

/-- RESET_MEDIA, command code 41 (R161). The row executes every RESET but one of kind FULL (log 3). -/
def execResetMedia (s : State) : Host.Outcome State Fault Refusal :=
  .next <|
    runCommand (fun p => codeIs 41 p && p.params != fullParams) (resetRule State.mediaReset) s

end Sys2Proof.Machine
end

