-- ==== Sys2Proof/Machine/Dispatch.lean ====
section
/-! DEFINITION. The meaning of every command: one arm for each row of spec/opcode_table.json. -/

namespace Sys2Proof.Machine

open Sys2Proof

/-- The effect of a command on everything but the queue of commands. -/
def exec (i : Instr) (s : State) : Host.Outcome State Fault Refusal :=
  match i with
  | .resetLine => Sys2Proof.Machine.execResetLine s
  | .linePacket link frame => Sys2Proof.Machine.execLinePacket link frame s
  | .soundPacket frame => Sys2Proof.Machine.execSoundPacket frame s
  | .controlPacket frame => Sys2Proof.Machine.execControlPacket frame s
  | .malformedFrame link frame => Sys2Proof.Machine.execMalformedFrame link frame s
  | .cabinLinkLockAcquired => Sys2Proof.Machine.execCabinLinkLockAcquired s
  | .cabinLinkLoss => Sys2Proof.Machine.execCabinLinkLoss s
  | .cameraLinkLock => Sys2Proof.Machine.execCameraLinkLock s
  | .cameraLinkUnlock => Sys2Proof.Machine.execCameraLinkUnlock s
  | .backChannelPacketSent => Sys2Proof.Machine.execBackChannelPacketSent s
  | .waitingReplyEnqueue => Sys2Proof.Machine.execWaitingReplyEnqueue s
  | .frameStart screen => Sys2Proof.Machine.execFrameStart screen s
  | .lockedFrameStart => Sys2Proof.Machine.execLockedFrameStart s
  | .lineDemand screen => Sys2Proof.Machine.execLineDemand screen s
  | .audioBlockBoundary => Sys2Proof.Machine.execAudioBlockBoundary s
  | .sampleInstant => Sys2Proof.Machine.execSampleInstant s
  | .stallTimerExpiry stream => Sys2Proof.Machine.execStallTimerExpiry stream s
  | .reverseLineSample level => Sys2Proof.Machine.execReverseLineSample level s
  | .receivedCanFrame frame => Sys2Proof.Machine.execReceivedCanFrame frame s
  | .staleTimerExpiry target => Sys2Proof.Machine.execStaleTimerExpiry target s
  | .entryDeadlineExpiry => Sys2Proof.Machine.execEntryDeadlineExpiry s
  | .lingerTimerExpiry => Sys2Proof.Machine.execLingerTimerExpiry s
  | .exitDeadlineExpiry => Sys2Proof.Machine.execExitDeadlineExpiry s
  | .flashHeaderLoad answers => Sys2Proof.Machine.execFlashHeaderLoad answers s
  | .flashRecordLoad => Sys2Proof.Machine.execFlashRecordLoad s
  | .flashWriteComplete outcome => Sys2Proof.Machine.execFlashWriteComplete outcome s
  | .openStream => Sys2Proof.Machine.execOpenStream s
  | .closeStream => Sys2Proof.Machine.execCloseStream s
  | .streamStatus => Sys2Proof.Machine.execStreamStatus s
  | .writeScreen => Sys2Proof.Machine.execWriteScreen s
  | .readScreen => Sys2Proof.Machine.execReadScreen s
  | .writeSignalSettings => Sys2Proof.Machine.execWriteSignalSettings s
  | .writeSignalEntry => Sys2Proof.Machine.execWriteSignalEntry s
  | .readSignals => Sys2Proof.Machine.execReadSignals s
  | .writeTakeoverSettings => Sys2Proof.Machine.execWriteTakeoverSettings s
  | .startView => Sys2Proof.Machine.execStartView s
  | .stopView => Sys2Proof.Machine.execStopView s
  | .takeoverStatus => Sys2Proof.Machine.execTakeoverStatus s
  | .writeGuideSettings => Sys2Proof.Machine.execWriteGuideSettings s
  | .writeGuideSet => Sys2Proof.Machine.execWriteGuideSet s
  | .readGuideResult => Sys2Proof.Machine.execReadGuideResult s
  | .defineImage => Sys2Proof.Machine.execDefineImage s
  | .imageData => Sys2Proof.Machine.execImageData s
  | .freeImage => Sys2Proof.Machine.execFreeImage s
  | .imageInfo => Sys2Proof.Machine.execImageInfo s
  | .writePalette => Sys2Proof.Machine.execWritePalette s
  | .writeObject => Sys2Proof.Machine.execWriteObject s
  | .clearObject => Sys2Proof.Machine.execClearObject s
  | .readObject => Sys2Proof.Machine.execReadObject s
  | .openSound => Sys2Proof.Machine.execOpenSound s
  | .closeSound => Sys2Proof.Machine.execCloseSound s
  | .writeMix => Sys2Proof.Machine.execWriteMix s
  | .writeDuck => Sys2Proof.Machine.execWriteDuck s
  | .audioStatus => Sys2Proof.Machine.execAudioStatus s
  | .writePattern => Sys2Proof.Machine.execWritePattern s
  | .playChime => Sys2Proof.Machine.execPlayChime s
  | .stopChime => Sys2Proof.Machine.execStopChime s
  | .chimeStatus => Sys2Proof.Machine.execChimeStatus s
  | .writeParkRates => Sys2Proof.Machine.execWriteParkRates s
  | .commit => Sys2Proof.Machine.execCommit s
  | .commitStatus => Sys2Proof.Machine.execCommitStatus s
  | .readTable => Sys2Proof.Machine.execReadTable s
  | .saveSettings => Sys2Proof.Machine.execSaveSettings s
  | .queryAttention => Sys2Proof.Machine.execQueryAttention s
  | .writeAttentionEnables => Sys2Proof.Machine.execWriteAttentionEnables s
  | .partStatus => Sys2Proof.Machine.execPartStatus s
  | .resetFull => Sys2Proof.Machine.execResetFull s
  | .resetMedia => Sys2Proof.Machine.execResetMedia s
  | .unknownCommand => Sys2Proof.Machine.execUnknownCommand s

end Sys2Proof.Machine
end

