-- ==== Sys2Proof/Machine/Step.lean ====
section
/-! DEFINITION. One step: the command at the front of the queue is taken (log 1). -/

namespace Sys2Proof.Machine

open Sys2Proof

/-- One step: the front command's effect with the queue's rest; on an empty queue the block idles
(log 1). -/
def step (s : State) : Host.Outcome State Fault Refusal :=
  match s.pending with
  | c :: rest => exec c (s.setPending rest)
  | [] => .next s

/-- The state with the command that a table word spells put at the front of the queue; unchanged where the
word spells none. -/
def State.withFetchWord (s : State) (nbits w : Nat) : State :=
  match decodeTableWord nbits w with
  | some c => s.setPending (c :: s.pending)
  | none => s

end Sys2Proof.Machine
end

