-- ==== Sys2Proof/Safety.lean ====
section
/-! DEFINITION. The words of the statements: when a command is executed, what a reply adds, the rows that
execute a command, and the laws that every step keeps. -/

namespace Sys2Proof.Machine

open Sys2Proof

/-! ### The execution of a command -/

/-- The command `p`, of code `code` and with the parameter fields `ws`, is the one executed next: it heads the
command queue, no reply waits (R149, R158), and the part is READY or the command is one of those executed during
LOADING (R153). -/
def State.executes (s : State) (p : ControlPacket) (code : Nat) (ws : List Word) : Prop :=
  s.link.waiting = none ∧ s.interp.queue.head? = some p ∧ p.code = code ∧ p.params = bytesOfWords ws ∧
    (s.interp.startUp = .ready ∨ code ∈ loadingCodes)

/-- A state with the reply to the command `p` handed to the back channel (R151). -/
def State.replied (s : State) (p : ControlPacket) (r : Result) (data : List Word) : State :=
  s.handReply ⟨p.tag, p.code, r, data⟩

/-- The rows that execute one command each, with its code (R169). RESET has two rows, one for each kind. -/
def commandRows : List (Nat × Instr) :=
  [(1, .openStream), (2, .closeStream), (3, .streamStatus), (4, .writeScreen), (5, .readScreen),
    (6, .writeSignalSettings), (7, .writeSignalEntry), (8, .readSignals), (9, .writeTakeoverSettings),
    (10, .startView), (11, .stopView), (12, .takeoverStatus), (13, .writeGuideSettings),
    (14, .writeGuideSet), (15, .readGuideResult), (16, .defineImage), (17, .imageData),
    (18, .freeImage), (19, .imageInfo), (20, .writePalette), (21, .writeObject), (22, .clearObject),
    (23, .readObject), (24, .openSound), (25, .closeSound), (26, .writeMix), (27, .writeDuck),
    (28, .audioStatus), (29, .writePattern), (30, .playChime), (31, .stopChime), (32, .chimeStatus),
    (33, .writeParkRates), (34, .commit), (35, .commitStatus), (36, .readTable), (37, .saveSettings),
    (38, .queryAttention), (39, .writeAttentionEnables), (40, .partStatus), (41, .resetFull),
    (41, .resetMedia)]

/-- The same rows but for RESET, each with its command's own rule (R150). -/
def commandRules : List (Nat × Instr × CommandRule) :=
  [(1, .openStream, openStream), (2, .closeStream, closeStream),
    (3, .streamStatus, streamStatus), (4, .writeScreen, writeScreen),
    (5, .readScreen, readScreen), (6, .writeSignalSettings, writeSignalSettings),
    (7, .writeSignalEntry, writeSignalEntry), (8, .readSignals, readSignals),
    (9, .writeTakeoverSettings, writeTakeoverSettings), (10, .startView, startView),
    (11, .stopView, stopView), (12, .takeoverStatus, takeoverStatus),
    (13, .writeGuideSettings, writeGuideSettings), (14, .writeGuideSet, writeGuideSet),
    (15, .readGuideResult, readGuideResult), (16, .defineImage, defineImage),
    (17, .imageData, imageData), (18, .freeImage, freeImage),
    (19, .imageInfo, imageInfo), (20, .writePalette, writePalette),
    (21, .writeObject, writeObject), (22, .clearObject, clearObject),
    (23, .readObject, readObject), (24, .openSound, openSound),
    (25, .closeSound, closeSound), (26, .writeMix, writeMix),
    (27, .writeDuck, writeDuck), (28, .audioStatus, audioStatus),
    (29, .writePattern, writePattern), (30, .playChime, playChime),
    (31, .stopChime, stopChime), (32, .chimeStatus, chimeStatus),
    (33, .writeParkRates, writeParkRates), (34, .commit, commit),
    (35, .commitStatus, commitStatus), (36, .readTable, readTable),
    (37, .saveSettings, saveSettings), (38, .queryAttention, queryAttention),
    (39, .writeAttentionEnables, writeAttentionEnables), (40, .partStatus, partStatus)]

/-! ### What a command leaves unchanged -/

/-- The parts of the state that the spec gives the block. -/
inductive Part where
  | link
  | cameraLocked
  | streams
  | screens
  | signals
  | takeover
  | guide
  | overlay
  | sound
  | chimes
  | tables
  | interp
  | loader
  | flash
  | ports
deriving DecidableEq, Repr

/-- Two states agree on a part. -/
def State.agreesOn (s t : State) : Part → Prop
  | .link => t.link = s.link
  | .cameraLocked => t.cameraLocked = s.cameraLocked
  | .streams => t.streams = s.streams
  | .screens => t.screens = s.screens
  | .signals => t.signals = s.signals
  | .takeover => t.takeover = s.takeover
  | .guide => t.guide = s.guide
  | .overlay => t.overlay = s.overlay
  | .sound => t.sound = s.sound
  | .chimes => t.chimes = s.chimes
  | .tables => t.tables = s.tables
  | .interp => t.interp = s.interp
  | .loader => t.loader = s.loader
  | .flash => t.flash = s.flash
  | .ports => t.ports = s.ports

/-- Every part but those listed is the same in `t` as in `s`. -/
def State.keepsBut (s : State) (changed : List Part) (t : State) : Prop :=
  ∀ p, p ∉ changed → s.agreesOn t p

/-! ### Reception -/

/-- The link whose LINE packets a stream takes (R7). -/
def linkOf (k : StreamId) : LinkId := if k = camera then .camera else .cabin

/-- Whether frames are received on a link: it holds lock (R17, R170). -/
def State.hears (s : State) : LinkId → Prop
  | .cabin => s.link.lock = .locked
  | .camera => s.cameraLocked = true

/-- The state once a good frame has been received on a link: on the cabin link the error counter is 0 (R170). -/
def State.received (s : State) : LinkId → State
  | .cabin => s.setLink { s.link with errors := 0 }
  | .camera => s

/-- The segment `p` completes a line on a stream's record, which becomes `r'` with the line `e` taken out of assembly
(R8, cases 2 and 3): a segment from pixel 0 on, which abandons a line in assembly and counts it, or one that goes on
where the line in assembly ends. Pixels beyond the width are left out. -/
def StreamRec.completedBy (r : StreamRec) (p : LinePacket) (r' : StreamRec) (e : QueueEntry) : Prop :=
  p.line < r.height ∧
    (p.first = 0 ∧ r.width ≤ p.pixels.length ∧ e = ⟨p.line, p.pixels.take r.width⟩ ∧
        r' = { r with
          assembly := none
          incompletes := if r.assembly.isSome then min (r.incompletes + 1) 65535 else r.incompletes } ∨
      ∃ a, p.first ≠ 0 ∧ r.assembly = some a ∧ p.line = a.line ∧ p.first = a.pixels.length ∧
        r.width ≤ a.pixels.length + p.pixels.length ∧
        e = ⟨p.line, (a.pixels ++ p.pixels).take r.width⟩ ∧ r' = { r with assembly := none })

/-- A stream record after a loss of cabin link lock (R15). -/
def StreamRec.afterCabinLoss (r : StreamRec) : StreamRec :=
  let kept := { r with
    assembly := none
    incompletes := if r.assembly.isSome then count16 r.incompletes else r.incompletes }
  if r.state = .priming ∨ r.state = .running then
    { kept with state := .stalled, stallTimer := .stopped, stalls := count16 r.stalls }
  else kept

/-! ### Parking and the opening of stream 7 -/

/-- A stream record after a park request (R14). -/
def StreamRec.afterPark (r : StreamRec) : StreamRec :=
  if r.state = .closed ∨ r.state = .parked then r else { r with state := .parked, stallTimer := .stopped }

/-- A stream record after an unpark request (R14). -/
def StreamRec.afterUnpark (r : StreamRec) : StreamRec :=
  if r.state ≠ .parked then r
  else if (r.queue.head?.map QueueEntry.line) = some 0 ∧ r.readyLevel ≤ r.queue.length then
    { r with state := .running, stallTimer := .running (48 * r.stallTimeout) }
  else { r with state := .priming }

/-- Stream 7 as a reopening with the takeover settings `x` leaves it (R16, R18). Its stall timeout stays (log 35). -/
def State.cameraOpened (s : State) (x : TakeoverSettings) : StreamRec :=
  let granted := min x.capacity (128 - (cabinStreams.map fun k =>
    if (s.stream k).state = .closed then 0 else (s.stream k).capacity).sum)
  { s.stream camera with
    state := .priming
    width := if x.format = .ycbcr422 ∧ x.width % 2 = 1 then x.width - 1 else x.width
    height := x.height, format := x.format, capacity := granted, readyLevel := min x.readyLevel granted
    queue := [], assembly := none, stallTimer := .stopped, startsToSkip := x.discardFrames + 1 }

/-! ### Claims -/

/-- The entry into SWITCHING_OUT with the takeover record `x` (R62): its timers, of which the exit deadline timer
runs, in sample periods (log 2), exit due clear, FRONT's normal source unparked, and FRONT's timing by stream 7. A
TAKING frame of a source that the unpark returns to RUNNING is FILL (R30). -/
def State.switchedOut (s t : State) (x : TakeoverUnit) : Prop :=
  t.takeover = { x with
    state := .switchingOut, entryTimer := .stopped, lingerTimer := .stopped
    exitTimer := .running (48 * x.settings.exitDeadline), exitDue := false } ∧
  (∀ j, t.stream j = if s.frontSource = some j then (s.stream j).afterUnpark else s.stream j) ∧
  ∀ k, t.screen k = { s.screen k with
    timing := if k ≠ front then (s.screen k).timing else if (t.stream camera).state = .running then .locked else .free
    frame := (s.screen k).frame.map fun f =>
      if f.mode = .taking ∧ (f.source.any fun j =>
          (s.stream j).state == .parked && (t.stream j).state == .running) = true then { f with mode := .fill } else f }

/-- A claim is removed, which leaves the takeover record `dropped`, and `t` follows by the state it is found in (R63).
With a claim left nothing else changes. The last claim gone: SWITCHING_IN becomes SWITCHING_OUT, and so does SHOWING
unless it `lingers`, with the linger timer running in sample periods (log 2); elsewhere nothing else changes. -/
def State.claimDropped (s t : State) (dropped : TakeoverUnit) (lingers : Prop) : Prop :=
  let kept (x : TakeoverUnit) : Prop := t.streams = s.streams ∧ t.screens = s.screens ∧ t.takeover = x
  (dropped.reverse = true ∨ dropped.manual = true → kept dropped) ∧
  (dropped.reverse = false → dropped.manual = false →
    match s.takeover.state with
    | .normal => kept dropped
    | .switchingIn => s.switchedOut t dropped
    | .showing => (¬ lingers → s.switchedOut t dropped) ∧
      (lingers → kept { dropped with
        state := .linger, lingerTimer := .running (48 * (100 * s.takeover.settings.lingerTime)) })
    | .linger => kept dropped
    | .switchingOut => kept dropped)

/-- A claim is added: the takeover record `claimed` holds it, and `t` follows by the state it is found in (R59, R64).
From NORMAL the switch-in begins, with FRONT's normal source parked, stream 7 reopened (log 35), LOCKED timing and the
entry deadline timer running, in sample periods (log 2); in SWITCHING_IN and SHOWING nothing else changes; LINGER and
SWITCHING_OUT return to SHOWING with their timer stopped, the latter with the source parked again and the timing by
stream 7. -/
def State.claimTaken (s t : State) (claimed : TakeoverUnit) : Prop :=
  let kept : Prop := t.streams = s.streams ∧ t.screens = s.screens
  let timed (m : TimingMode) : Prop := t.screens = s.screens.set front { s.screen front with timing := m }
  let parked (k : StreamId) : StreamRec := if s.frontSource = some k then (s.stream k).afterPark else s.stream k
  match s.takeover.state with
  | .normal => timed .locked ∧ t.stream camera = s.cameraOpened s.takeover.settings ∧
    (∀ k, k ≠ camera → t.stream k = parked k) ∧
    t.takeover = { claimed with
      state := .switchingIn, entryTimer := .running (48 * s.takeover.settings.entryDeadline) }
  | .switchingIn => kept ∧ t.takeover = claimed
  | .showing => kept ∧ t.takeover = claimed
  | .linger => kept ∧ t.takeover = { claimed with state := .showing, lingerTimer := .stopped }
  | .switchingOut => timed (if (t.stream camera).state = .running then .locked else .free) ∧
    (∀ k, t.stream k = parked k) ∧
    t.takeover = { claimed with state := .showing, exitTimer := .stopped, exitDue := false }

/-! ### Frame starts -/

/-- The row `i` is a frame start of screen `k` that occurs (R23, R24): the screen has started, the rows of its
previous frame are done, and either its timing is FREE and the frame period has passed (log 2), or it is FRONT in
LOCKED timing and stream 7 is RUNNING with a line 0 queued and its ready level from that line 0 on. -/
def State.startsFrame (s : State) (k : ScreenId) (i : Instr) : Prop :=
  (s.screen k).started = true ∧
    (∀ f, (s.screen k).frame = some f → (s.screen k).active.height ≤ f.nextRow) ∧
    (i = .frameStart k ∧ (s.screen k).timing = .free ∧
        ((s.screen k).period = .stopped ∨ (s.screen k).period = .running 0) ∨
      k = front ∧ i = .lockedFrameStart ∧ (s.screen front).timing = .locked ∧ (s.stream camera).state = .running ∧
        (∃ e ∈ (s.stream camera).queue, e.line = 0) ∧ (s.stream camera).readyLevel ≤
          ((s.stream camera).queue.dropWhile fun e => e.line != 0).length)

/-- The item of the screen group of `k` at its frame start (R143, R144): released, it has left the pending set, and
its group's outcome record says APPLIED, with the item's last tag, the screen and the number of the frame; otherwise
both stand. The groups that a frame start of this screen does not release have theirs as they were. -/
def State.screenItemApplied (s t : State) (k : ScreenId) : Prop :=
  let stands (g : Group) : Prop :=
    t.item g = s.item g ∧ t.tables.outcomes.get g.index = s.tables.outcomes.get g.index
  (∀ x, s.released (screenGroup k) = some x → t.item (screenGroup k) = none ∧
      t.tables.outcomes.get (screenGroup k).index =
        ⟨.applied, some x.lastTag, some ⟨k, (s.screen k).counter + 1⟩⟩) ∧
    (s.released (screenGroup k) = none → stands (screenGroup k)) ∧
    ∀ g, g ≠ screenGroup k → g ≠ .palettes → g ≠ .objects → g ≠ .guide ∨ k ≠ front → stands g

/-! ### Changes of the vehicle signals -/

/-- The record of a target differs in value or state between two states: a change that is made known (R47). -/
def State.moved (s t : State) (x : Target) : Prop :=
  (t.signal x).value ≠ (s.signal x).value ∨ (t.signal x).state ≠ (s.signal x).state

/-- A DIST target (R48). -/
def isDist (x : Target) : Prop := x = .dist0 ∨ x = .dist1 ∨ x = .dist2 ∨ x = .dist3

/-- SPEED in `t` is FRESH and above a limit (R56, R58, R63). -/
def State.fasterThan (t : State) (limit : Nat) : Bool :=
  (t.signal .speed).state == .fresh && decide ((limit : Int) < (t.signal .speed).value)

/-- `u` has the takeover record, the streams and the screens of `s` once a change of the SPEED record, which is that
of `t`, has been handed on: above the manual speed limit it removes MANUAL, with the two flags (R58), and the way out
begins where this was the last claim of SWITCHING_IN or SHOWING, or in LINGER above its limit (R63). -/
def State.speedTaken (s t u : State) : Prop :=
  let ends := s.takeover.manual && t.fasterThan s.takeover.settings.manualSpeed
  let x := if ends then { s.takeover with manual := false, manualChanged := true, speedRemoved := true }
    else s.takeover
  let out : Prop := ends = true ∧ s.takeover.reverse = false ∧
      (s.takeover.state = .switchingIn ∨ s.takeover.state = .showing) ∨
    s.takeover.state = .linger ∧ t.fasterThan s.takeover.settings.lingerSpeed = true
  let same : Prop := u.streams = s.streams ∧ u.screens = s.screens
  (¬ s.moved t .speed → same ∧ u.takeover = s.takeover) ∧
    (s.moved t .speed → (out → s.switchedOut u x) ∧ (¬ out → same ∧ u.takeover = x))

/-- What a change of the vehicle signals from `s` has worked out in `t`. The nearest distance is worked out again
exactly when `distance` holds (R48), the reverse request exactly when `request` holds (R49). A changed request is an
edge for a controller that has started: the claim REVERSE follows it, with its change flag (R55), and the takeover
record, the streams and the screens follow by the state `u` that the claim finds, an added claim as `State.claimTaken`
says (R64) and a removed one as `State.claimDropped` says (R63). That state is the one that a change of SPEED has
left, which comes first by the model's choice (log 16); without an edge it is that of `t`. A changed distance and an
edge have the park tone judged (R136), and without either the chimes stay as they are. -/
def State.reformed (s t : State) (distance request : Prop) : Prop :=
  let edge := t.signals.request ≠ s.signals.request ∧ s.takeover.started = true
  let near := t.signals.nearest
  (distance → near = t.signals.formNearest) ∧ (¬ distance → near = s.signals.nearest) ∧
    (request → t.signals.request = t.signals.formRequest) ∧
    (¬ request → t.signals.request = s.signals.request) ∧
    (edge → t.takeover.reverse = (t.signals.request == .engaged) ∧ t.takeover.reverseChanged = true) ∧
    (∃ u : State, s.speedTaken t u ∧
      (edge → t.signals.request = .engaged →
        u.claimTaken t { u.takeover with reverse := true, reverseChanged := true }) ∧
      (edge → t.signals.request = .released →
        u.claimDropped t { u.takeover with reverse := false, reverseChanged := true }
          (0 < s.takeover.settings.lingerTime ∧ t.fasterThan s.takeover.settings.lingerSpeed = false)) ∧
      (¬ edge → t.takeover = u.takeover ∧ t.streams = u.streams ∧ t.screens = u.screens)) ∧
    (¬ edge → t.takeover.reverse = s.takeover.reverse ∧ t.takeover.reverseChanged = s.takeover.reverseChanged) ∧
    (near ≠ s.signals.nearest ∨ edge → t.chimes.judgedOn = near ∧
      t.chimes.eligible = (t.takeover.reverse && near.fresh &&
        s.chimes.rates.entries.getLast?.any fun e => decide (near.value < e.threshold))) ∧
    (near = s.signals.nearest → ¬ edge → t.chimes = s.chimes)

/-! ### Normal sources -/

/-- A stream is named as normal source by a copy of a screen's record. -/
def State.names (s : State) (k : ScreenId) (j : StreamId) : Prop :=
  (s.screen k).active.source = some j ∨ (s.screen k).shadow.source = some j

/-! ### Chimes -/

/-- A pattern that WRITE PATTERN stores under the number `q`, its frequencies within their range (R125, R126). -/
def patternGood (q : Fin 16) (pat : Pattern) : Prop :=
  1 ≤ pat.steps.length ∧ pat.steps.length ≤ 32 ∧
    (∀ x ∈ pat.steps, (x.frequency = 0 ∨ 100 ≤ x.frequency ∧ x.frequency ≤ 8000) ∧ x.level ≤ 255 ∧
      1 ≤ x.duration ∧ x.duration ≤ 2000) ∧
    pat.repeats ≤ 255 ∧ pat.priority ≤ 7 ∧ pat.loopStart ≤ pat.loopEnd ∧ pat.loopEnd < pat.steps.length ∧
    (q = 15 → pat.regionPlays = true)

/-- A park rate table within the ranges of R135, its thresholds strictly rising. -/
def ratesGood (rates : ParkRates) : Prop :=
  rates.entries.length ≤ 8 ∧ rates.continuous ≤ 1000 ∧
    (∀ e ∈ rates.entries, 1 ≤ e.threshold ∧ e.threshold ≤ 1000 ∧ e.gap ≤ 2000) ∧
    rates.entries.Pairwise (fun a b => a.threshold < b.threshold)

/-- A request for the WRITTEN pattern `q` at distance `d`, by the first case of R131 that applies; `leaves` is told the
chimes that it leaves, its result, and the pattern for which CHIME_DROPPED is raised. -/
def ChimeUnit.requestTaken (u : ChimeUnit) (d : Nat) (q : Fin 16) (pat : Pattern)
    (leaves : ChimeUnit → Result → Option (Fin 16) → Prop) : Prop :=
  let order := min (u.starts + 1) 65535
  let request : Request := ⟨q, pat.priority, pat.repeats⟩
  let start (v : Fin 2) (stack : List Context) : ChimeUnit := { u with
    voices := u.voices.set v (startContext u.rates d pat q pat.repeats order), starts := order, stack := stack }
  (u.present q = true → pat.restart = false → leaves u .merged none) ∧
    (u.present q = true → pat.restart = true → (∀ v c, u.voices.get v = some c → c.pattern ≠ q) →
      leaves u .merged none) ∧
    (∀ v c, u.voices.get v = some c → c.pattern = q → pat.restart = true →
      (∀ w c', u.voices.get w = some c' → c'.pattern = q → w = v) →
      leaves { u with voices := u.voices.set v (startContext u.rates d pat q pat.repeats c.order) } .merged none) ∧
    (u.present q = false → u.voices.get 0 = none → leaves (start 0 u.stack) .started none) ∧
    (∀ a, u.present q = false → u.voices.get 0 = some a → u.voices.get 1 = none →
      leaves (start 1 u.stack) .started none) ∧
    ∀ a b pa pb, u.present q = false → u.voices.get 0 = some a → u.voices.get 1 = some b →
      u.patterns.get a.pattern = some pa → u.patterns.get b.pattern = some pb →
      (∀ v c, min pa.priority pb.priority < pat.priority →
        (v = 0 ∧ c = a ∧ (pa.priority < pb.priority ∨ pa.priority = pb.priority ∧ b.order < a.order) ∨
          v = 1 ∧ c = b ∧ (pb.priority < pa.priority ∨ pa.priority = pb.priority ∧ a.order ≤ b.order)) →
        (u.stack.length < 4 → leaves (start v (u.stack ++ [c])) .started none) ∧
        (∀ x rest, 4 ≤ u.stack.length → u.stack = x :: rest →
          leaves (start v (rest ++ [c])) .started (some x.pattern))) ∧
      (pat.priority ≤ pa.priority → pat.priority ≤ pb.priority →
        let before := u.queue.takeWhile fun x => decide (pat.priority ≤ x.priority)
        let after := u.queue.dropWhile fun x => decide (pat.priority ≤ x.priority)
        (u.queue.length < 8 → leaves { u with queue := before ++ request :: after } .queued none) ∧
        (u.queue.length = 8 → after = [] → leaves u .dropped (some q)) ∧
        (∀ l, u.queue.length = 8 → after ≠ [] → u.queue.getLast? = some l →
          leaves { u with queue := before ++ request :: after.dropLast } .queued (some l.pattern)))

/-- The park tone judged with the claim REVERSE as `reverse` says (R136); `leaves` is told the chimes that it leaves
and the pattern for which CHIME_DROPPED is raised. Without another result nothing plays or stops; a tone that becomes
eligible is requested like any other pattern, and an EMPTY one has no effect; one that becomes ineligible is cut
wherever it is present, and a voice that held it takes its next (R132, R133). -/
def State.parkJudged (s : State) (reverse : Bool) (leaves : ChimeUnit → Option (Fin 16) → Prop) : Prop :=
  let near := s.signals.nearest
  let now := reverse && near.fresh &&
    s.chimes.rates.entries.getLast?.any fun e => decide (near.value < e.threshold)
  let judged := { s.chimes with eligible := now, judgedOn := near }
  let removed := { judged with
    queue := s.chimes.queue.filter fun r => r.pattern != 15, stack := s.chimes.stack.filter fun c => c.pattern != 15 }
  let holds (v : Fin 2) : Prop := ∃ c, s.chimes.voices.get v = some c ∧ c.pattern = 15
  (now = s.chimes.eligible → leaves judged none) ∧
    (now = true → s.chimes.eligible = false →
      (s.chimes.patterns.get 15 = none → leaves judged none) ∧
      ∀ pat, s.chimes.patterns.get 15 = some pat →
        judged.requestTaken near.value 15 pat fun u _ dropped => leaves u dropped) ∧
    (now = false → s.chimes.eligible = true →
      ((∀ v, ¬ holds v) → leaves removed none) ∧
      ∀ v, holds v → (∀ w, holds w → w = v) → leaves (removed.takeNext near.value v) none)

/-- CHIME_DROPPED raised for a pattern, when there is one (R131). -/
def State.raisedFor (s : State) : Option (Fin 16) → State
  | none => s
  | some x => s.raise .chimeDropped (.member x)

/-! ### The settings flash -/

/-- The flash that a write step, cut or failed, may leave (R167): behind an ERASE or a header no good header; behind a
record the other bytes as they were, and in its place either what stood there before, which is the erased area, or the
record's kind and whole length with a CRC that is wrong (log 7). -/
def State.cutBy (s : State) (flash : Memory) : Prop :=
  let addr := s.loader.saveAddr
  ((∀ i bytes, s.loader.saveStep ≠ .record i bytes) → ∀ h l : Byte, h.toNat * 256 + l.toNat ≤ 18 →
    flash.readBytes flashDefault 0 8 ≠ [0x46#8, 0x56#8, 0x32#8, 0x31#8, 0#8, 1#8, h, l]) ∧
    ∀ i kind content, s.loader.saveStep = .record i (recordFrame kind content) → addr + 9 + content.length ≤ 524288 →
      (∀ a, a < addr ∨ addr + 9 + content.length ≤ a →
        flash.read flashDefault a = s.flash.read flashDefault a) ∧
      ((∀ a, flash.read flashDefault a = s.flash.read flashDefault a) ∨
        flash.readBytes flashDefault addr 5 = (recordFrame kind content).take 5 ∧
          flash.readBytes flashDefault (addr + 5 + content.length) 4 ≠
            bytesOf32 (crc32 (flash.readBytes flashDefault addr (5 + content.length))))

/-- The seven places of a signal map as fields, each with its presence field (R171, log 13). -/
def mapFields (map : Tab (Option SignalEntry) 7) : List Word :=
  map.toList.flatMap fun o => match o with
    | some e => 1#16 :: signalEntryWords e
    | none => [0#16]

/-- The sets in use of a guide table, in their order (R73). -/
def GuideTable.setsInUse (g : GuideTable) : List GuideSet :=
  (List.finRange 17).filterMap fun k => if k.val < g.setCount then g.sets.get k else none

/-- A record of patterns as fields: their count, and each with its number (R171, log 13). -/
def patternFields (held : List (Fin 16 × Pattern)) : List Word :=
  BitVec.ofNat 16 held.length :: held.flatMap fun x => BitVec.ofNat 16 x.1.val :: patternWords x.2

/-- A PATTERNS record as fields, each pattern with its number, its step fields and the five fields behind them. -/
def rawPatterns (held : List (Fin 16 × List Word × List Word)) : List Word :=
  BitVec.ofNat 16 held.length :: held.flatMap fun x =>
    BitVec.ofNat 16 x.1.val :: BitVec.ofNat 16 (x.2.1.length / 5) :: x.2.1 ++ x.2.2

/-- Every pattern of a PATTERNS record passes the checks of R126. -/
def rawPatternsGood (held : List (Fin 16 × List Word × List Word)) : Prop :=
  ∀ x ∈ held, x.2.1.length ≤ 160 ∧ (patternOf x.1 x.2.1 x.2.2).isSome = true

/-- The content of a record of the kind `k` passes the checks of R164, its source those of the other screens of `s`. The
codings of the contents are the model's (log 13). -/
def State.accepts (s : State) (content : List Byte) (k : SingleKind) : Prop :=
  let screen (sc : ScreenId) : Prop := ∃ r, content = bytesOfWords (screenWords r) ∧
    screenOf (screenWords r) = some r ∧ ∀ sc' j, sc' ≠ sc → r.source = some j → ¬ s.names sc' j
  match k with
  | .takeover => ∃ ws x, content = bytesOfWords ws ∧ takeoverOf ws = .ok x
  | .signals => ∃ i po so br x map, signalSettingsOf i po so br = some x ∧
    (∀ y e, map.get y = some e → signalEntryOf (signalEntryWords e) = some e) ∧
    content = bytesOfWords ([i, po, so, br] ++ mapFields map)
  | .screenFront => screen 0
  | .guide => ∃ ws g, content = bytesOfWords ws ∧ guideRecord ws = some g
  | .palettes => content.length = 4096
  | .patterns => ∃ held, rawPatternsGood held ∧ content = bytesOfWords (rawPatterns held)
  | .parkRates => ∃ rates, ratesGood rates ∧ content = bytesOfWords (parkWords rates)
  | .mix => ∃ (gains : List Word) (ramp duck zones : Word), gains.length = 80 ∧ 1 ≤ ramp.toNat ∧
    ramp.toNat ≤ 32768 ∧ duck.toNat ≤ 32768 ∧ zones.toNat < 8 ∧
    content = bytesOfWords (gains ++ [ramp, duck, zones])
  | .screenRearLeft => screen 1
  | .screenRearRight => screen 2

/-- The table that an accepted record of the kind `k` replaces stands in `t` as its content gives it (R164). -/
def State.loads (t : State) (content : List Byte) (k : SingleKind) : Prop :=
  let screen (sc : ScreenId) : Prop := (t.screen sc).started = true ∧
    (t.screen sc).shadow = (t.screen sc).active ∧ ∀ r, content = bytesOfWords (screenWords r) →
      screenOf (screenWords r) = some r → (t.screen sc).active =
        if sc = front then r else { r with cameraX := 0, cameraY := 0, guideEnable := false }
  match k with
  | .takeover => t.takeover.started = true ∧ ∀ ws x, content = bytesOfWords ws → takeoverOf ws = .ok x →
    t.takeover.settings = x
  | .signals => ∀ i po so br x map, signalSettingsOf i po so br = some x →
    content = bytesOfWords ([i, po, so, br] ++ mapFields map) →
    (∀ y e, map.get y = some e → signalEntryOf (signalEntryWords e) = some e) →
    t.signals.settings = x ∧ t.signals.map = map
  | .screenFront => screen 0
  | .guide => t.guide.shadow = t.guide.active ∧ ∀ ws g, content = bytesOfWords ws → guideRecord ws = some g →
    t.guide.active = g
  | .palettes => (∀ sc, (t.overlay.screens.get sc).palettes = t.overlay.shadowPalettes) ∧
    ∀ (q : Fin 4) (i : Fin 256), let a := 1024 * q.val + 4 * i.val
      (t.overlay.shadowPalettes.get q).get i =
        ⟨content.getD a 0, content.getD (a + 1) 0, content.getD (a + 2) 0, content.getD (a + 3) 0⟩
  | .patterns => ∀ held, rawPatternsGood held → content = bytesOfWords (rawPatterns held) →
    ∀ q x, held.reverse.find? (fun x => x.1 == q) = some x →
      t.chimes.patterns.get q = (patternOf q x.2.1 x.2.2).map Prod.fst
  | .parkRates => ∀ rates, ratesGood rates → content = bytesOfWords (parkWords rates) → t.chimes.rates = rates
  | .mix => t.sound.shadow = t.sound.active ∧ ∀ (gains : List Word) (ramp duck zones : Word), gains.length = 80 →
    content = bytesOfWords (gains ++ [ramp, duck, zones]) → t.sound.active.rampStep = ramp.toNat ∧
      t.sound.active.duckFactor = duck.toNat ∧ (∀ z, t.sound.active.duckZones.get z = zones.getLsbD z.val) ∧
      ∀ i o, (t.sound.active.gains.get i).get o = min (gains.getD (8 * i.val + o.val) 0).toNat 32768
  | .screenRearLeft => screen 1
  | .screenRearRight => screen 2

/-- An IMAGE record's content: the image 120 + j, its shape, its bytes, and a pad byte after an odd number (R171). -/
def imageContentOf (content : List Byte) (j : Fin 8) (x : ImageShape) (bytes : List Byte) : Prop :=
  let size := if x.format = .index8 then x.width * x.height else (x.width * x.height + 1) / 2
  ∃ (w h f pl : Word) (pad : List Byte), imageShapeOf w h f pl = some x ∧ bytes.length = size ∧
    pad.length = size % 2 ∧
    content = bytesOfWords [BitVec.ofNat 16 (120 + j.val), w, h, f, pl] ++ bytes ++ pad

/-- The content of an IMAGE record passes the checks of R164, with the pages that are free in `s`. -/
def State.acceptsImage (s : State) (content : List Byte) : Prop :=
  ∃ j x bytes, imageContentOf content j x bytes ∧ (bytes.length + 511) / 512 ≤ s.overlay.freePages.length

/-- The image 120 + j is defined in `t` on the lowest pages free in `s` and holds the bytes given; the other pages and
the rest of the overlays are as in `s` (R92, R164). -/
def State.imageLoaded (s t : State) (j : Fin 8) (x : ImageShape) (bytes : List Byte) : Prop :=
  let need := (bytes.length + 511) / 512
  let d : ImageDesc := ⟨x.width, x.height, x.format, x.palette, s.overlay.freePages.take need⟩
  ∃ store : Memory,
    t.overlay = { s.overlay with
      freePages := s.overlay.freePages.drop need
      images := s.overlay.images.set (flashImage j) (some d), store := store } ∧
    (∀ b, b < bytes.length → some (store.read storeDefault (d.addr b)) = bytes[b]?) ∧
    ∀ a, (∀ q ∈ d.pages, a < q.val * 512 ∨ q.val * 512 + 512 ≤ a) →
      store.read storeDefault a = s.overlay.store.read storeDefault a

/-- The parts that a walk over the flash may change beside the tables of the records it accepts: its own, the start-up
state and the causes, and what the start actions and the judgements behind them touch (R163, R164). -/
def walkParts : List Part := [.loader, .interp, .takeover, .streams, .screens, .chimes]

/-- START_UP_FAULT names the kind of the place `place` in `t`, where the cause is enabled (R154, R163). -/
def State.faults (s t : State) (place : Nat) : Prop :=
  let old := s.interp.causes.get Cause.startUpFault.index
  s.interp.enabled.get Cause.startUpFault.index = true → (old = none ∨ ∃ set, old = some (.members set)) →
    ∃ (set : FlagSet 16) (m : Fin 16), m.val = place ∧ set.get m = true ∧
      t.interp.causes.get Cause.startUpFault.index = some (.members set)

/-- The walk is DONE and the part READY (R163). -/
def State.walkDone (t : State) : Prop :=
  t.loader.position = .done ∧ t.loader.recordsLeft = 0 ∧ t.interp.startUp = .ready

/-! ### Laws -/

/-- The law of line memory (R2): the capacities of the streams that are not CLOSED sum to at most 128, no queue
holds more lines than its stream's capacity, and a RUNNING stream has a line slot. -/
def lineMemoryLaw (s : State) : Prop :=
  s.slotsReserved ≤ 128 ∧ ∀ k, (s.stream k).queue.length ≤ (s.stream k).capacity ∧
    ((s.stream k).state = .running → 1 ≤ (s.stream k).capacity)

/-- The byte memories keep their canonical form. -/
def memoryLaw (s : State) : Prop :=
  Memory.wf storeDefault storeSize s.overlay.store = true ∧
    Memory.wf flashDefault flashSize s.flash = true

/-- No queue of the part holds more than its place: 64 back-channel packets (R158), 8 commands (R149), an error
counter below 32 (R170), 1,024 frames in each FIFO (R109), 8 chime requests and 4 suspended contexts (R130). -/
def queueLaw (s : State) : Prop :=
  s.link.back.length ≤ 64 ∧ s.interp.queue.length ≤ 8 ∧ s.link.errors < 32 ∧
    (∀ k, (s.fifo k).fill ≤ 1024) ∧ s.chimes.queue.length ≤ 8 ∧ s.chimes.stack.length ≤ 4

/-- The law of normal sources (R20): a stream is named by at most one screen, both copies counted, and stream 7
by none. -/
def sourceLaw (s : State) : Prop :=
  (∀ k k' j, s.names k j → s.names k' j → k = k') ∧ ∀ k, ¬ s.names k camera

/-- The law of the takeover record: REVERSE is claimed only in SWITCHING_IN and SHOWING (R64); the entry deadline
timer runs in SWITCHING_IN, the linger timer in LINGER, the exit deadline timer in SWITCHING_OUT until it expires
(R54); exit due belongs to SWITCHING_OUT. -/
def takeoverLaw (s : State) : Prop :=
  let t := s.takeover
  (t.reverse = true → t.state = .switchingIn ∨ t.state = .showing) ∧
    (t.entryTimer.isRunning = true ↔ t.state = .switchingIn) ∧
    (t.lingerTimer.isRunning = true ↔ t.state = .linger) ∧
    (t.exitTimer.isRunning = true ↔ t.state = .switchingOut ∧ t.exitDue = false) ∧
    (t.exitDue = true → t.state = .switchingOut)

/-- The law of FRONT's timing: LOCKED in SWITCHING_IN (R59, R60), FREE in NORMAL (R65), and the rear screens
always FREE (R24). -/
def timingLaw (s : State) : Prop :=
  (s.takeover.state = .switchingIn → (s.screen front).timing = .locked) ∧
    (s.takeover.state = .normal → (s.screen front).timing = .free) ∧
    ∀ k, k ≠ front → (s.screen k).timing = .free

/-- The states in which FRONT's normal source is kept parked (R69). -/
def State.parksSource (s : State) : Prop :=
  s.takeover.state = .switchingIn ∨ s.takeover.state = .showing ∨ s.takeover.state = .linger

/-- The law of parking (R14, R69): in SWITCHING_IN, SHOWING and LINGER FRONT's active normal source is PARKED or
CLOSED, or is NONE; a PARKED stream is that source in one of these states; stream 7 is not that source. While
the settings are loaded the part is LOADING and streams 0 to 6 are CLOSED (R19, R153). -/
def parkingLaw (s : State) : Prop :=
  (s.parksSource → ∀ k, s.frontSource = some k →
    (s.stream k).state = .parked ∨ (s.stream k).state = .closed) ∧
    (∀ k, (s.stream k).state = .parked → s.parksSource ∧ s.frontSource = some k) ∧
    (s.screen front).active.source ≠ some camera ∧ (s.screen front).shadow.source ≠ some camera ∧
    (s.loader.position ≠ .done → s.interp.startUp = .loading) ∧
    (s.interp.startUp = .loading → ∀ k, k ≠ camera → (s.stream k).state = .closed)

/-- The pages in the free list and in the page lists of the DEFINED images, image by image. -/
def OverlayUnit.allPages (u : OverlayUnit) : List (Fin 2048) :=
  u.freePages ++ u.images.toList.flatMap pagesOf

/-- The law of pages (R90, R91): every page stands exactly once in the free list or in one image's page list, the
free list ascends, and a DEFINED image holds as many pages as its size needs, in ascending order. -/
def pageLaw (s : State) : Prop :=
  s.overlay.allPages.Perm (List.finRange 2048) ∧ s.overlay.freePages.Pairwise (· < ·) ∧
    ∀ n d, s.overlay.images.get n = some d →
      d.pages.length = pagesFor d.size ∧ d.pages.Pairwise (· < ·)

/-- The law of images (R95): an image that a USED shadow entry or an active copy names is DEFINED. -/
def imageLaw (s : State) : Prop :=
  (∀ e f, s.overlay.objects.get e = some f → s.overlay.defined f.image = true) ∧
    ∀ k c, c ∈ (s.overlay.screens.get k).list → s.overlay.defined c.fields.image = true

/-- The law of attention (R154, R156): a cause that is pending is in the enable set. -/
def attentionLaw (s : State) : Prop :=
  ∀ c, (s.interp.causes.get c).isSome = true → s.interp.enabled.get c = true

/-- No gain of a matrix exceeds unity, 32768 (R115). -/
def Gains.bounded (g : Gains) : Prop := ∀ i o, (g.get i).get o ≤ 32768

/-- The law of gains (R115, R119, R120): gains, duck factors, target gains and current gains are at most 32768. -/
def gainLaw (s : State) : Prop :=
  Gains.bounded s.sound.active.gains ∧ Gains.bounded s.sound.shadow.gains ∧
    s.sound.active.duckFactor ≤ 32768 ∧ s.sound.shadow.duckFactor ≤ 32768 ∧
    s.takeover.settings.attenuation ≤ 32768 ∧
    Gains.bounded s.sound.targets ∧ Gains.bounded s.sound.current

/-- The patterns present: playing, requested or suspended (R130). -/
def ChimeUnit.presentPatterns (u : ChimeUnit) : List (Fin 16) :=
  u.voices.toList.filterMap (fun o => o.map Context.pattern) ++ u.queue.map Request.pattern ++
    u.stack.map Context.pattern

/-- The law of chimes (R130): a pattern is present at most once, a pattern that is present is WRITTEN, and the
pending queue is ordered by falling priority. -/
def chimeLaw (s : State) : Prop :=
  s.chimes.presentPatterns.Nodup ∧
    (∀ p, p ∈ s.chimes.presentPatterns → (s.chimes.patterns.get p).isSome = true) ∧
    s.chimes.queue.Pairwise fun a b => b.priority ≤ a.priority

/-- The law of pending items (R141): an item of OBJECTS or PALETTES has still a screen to apply it, and an item of
another group has none. -/
def itemLaw (s : State) : Prop :=
  ∀ g i, s.item g = some i →
    if g = .objects ∨ g = .palettes then ∃ set k, i.screens = some set ∧ set.get k = true
    else i.screens = none

end Sys2Proof.Machine
end

