-- ==== Sys2Proof/Certificates/Slice0/Obligations.lean ====
section
/-! DEFINITION. The statements for the provers, in the order of OBLIGATIONS.json. -/

open Sys2Proof Sys2Proof.Machine

/-! ### Steps and commands in general -/

/-- A step is `exec` of the command at the front of the queue, on the state with the queue's rest; with an empty
queue the block idles (the model's choice, log 1). -/
def Obligations.StepRunsFrontCommand : Prop :=
  (∀ (c : Instr) (rest : List Instr) (s : State), s.pending = c :: rest → step s = exec c (s.setPending rest)) ∧
    ∀ s : State, s.pending = [] → step s = .next s

/-- The execution of a command takes it from the queue and gives exactly one reply, with its tag and code: on the
back channel while that is locked and has room, waiting while it is full, discarded while it is not locked. -/
def Obligations.OneReplyPerCommand : Prop :=
  ∀ (code : Nat) (i : Instr) (s : State) (p : ControlPacket) (rest : List ControlPacket),
    (code, i) ∈ commandRows → code ≤ 40 → s.link.waiting = none → s.interp.queue = p :: rest → p.code = code →
    ∃ (t : State) (r : Result) (data : List Word), exec i s = .next t ∧ t.interp.queue = rest ∧
      t.link =
        if s.link.lock = .locked then
          if s.link.back.length < 64 then
            { s.link with back := s.link.back ++ [.reply ⟨p.tag, code, r, data⟩] }
          else { s.link with waiting := some ⟨p.tag, code, r, data⟩ }
        else s.link

/-- The checks before a command's own rule: BAD_COMMAND for a code of no command, also during LOADING; BUSY during
LOADING but for READ SIGNALS, TAKEOVER STATUS, QUERY ATTENTION and PART STATUS; then BAD_LENGTH for parameters that
are no whole number of 16-bit fields, and for a wrong count of fields: a command without a list given another number
than its form has, one with a list behind its fields given fewer than those fields, WRITE PATTERN and WRITE PARK
RATES, whose lists have fields behind them too, given fewer than the 7 and the 2 fields that stand before and behind
the list, whatever they hold (the form of such a command is the model's reading, log 12), WRITE OBJECT given no
presence field, WRITE SIGNAL ENTRY and READ OBJECT given neither of their forms, and READ TABLE given no group or a
wrong GUIDE form. The forms that the layouts leave open are the model's (log 11), and so is the row that takes a RESET
of another form (log 3). -/
def Obligations.ChecksBeforeOwnRule : Prop :=
  (∀ (code : Nat) (i : Instr) (s : State) (p : ControlPacket),
     (code, i) ∈ commandRows → code ≤ 40 → s.link.waiting = none → s.interp.queue.head? = some p →
     p.code = code →
     (s.interp.startUp = .loading ∧ code ∉ [8, 12, 38, 40] →
       exec i s = .next ((s.popCommand.noteRefusal p .busy).replied p .busy [])) ∧
     ((s.interp.startUp = .ready ∨ code ∈ [8, 12, 38, 40]) ∧ p.params.length % 2 = 1 →
       exec i s = .next ((s.popCommand.noteRefusal p .badLength).replied p .badLength []))) ∧
  (∀ (s : State) (p : ControlPacket), s.link.waiting = none → s.interp.queue.head? = some p →
     (p.code = 0 ∨ 41 < p.code) →
     exec .unknownCommand s = .next ((s.popCommand.noteRefusal p .badCommand).replied p .badCommand [])) ∧
  let short (i : Instr) (s : State) (p : ControlPacket) : Prop :=
    exec i s = .next ((s.popCommand.noteRefusal p .badLength).replied p .badLength [])
  (∀ (code n : Nat) (i : Instr) (s : State) (p : ControlPacket) (ws : List Word),
     (code, n) ∈ [(1, 7), (2, 1), (3, 2), (4, 14), (5, 2), (6, 4), (8, 1), (9, 16), (10, 0), (11, 0), (12, 0),
       (13, 19), (15, 0), (16, 5), (18, 1), (19, 2), (22, 1), (24, 4), (25, 1), (27, 3), (28, 2), (30, 1), (31, 2),
       (32, 1), (34, 2), (35, 1), (37, 0), (38, 0), (39, 1), (40, 0), (41, 1)] →
     (code, i) ∈ commandRows → s.executes p code ws → ws.length ≠ n → short i s p) ∧
  (∀ (code n : Nat) (i : Instr) (s : State) (p : ControlPacket) (ws : List Word),
     (code, n) ∈ [(14, 3), (17, 4), (20, 3), (21, 11), (26, 3), (29, 7), (33, 2)] →
     (code, i) ∈ commandRows → s.executes p code ws → ws.length < n → short i s p) ∧
  ∀ (s : State) (p : ControlPacket) (ws : List Word),
    (s.executes p 7 ws → ws.length ≠ 2 → ws.length ≠ 13 → short .writeSignalEntry s p) ∧
    (s.executes p 23 ws → ws.length ≠ 2 → ws.length ≠ 3 → short .readObject s p) ∧
    (s.executes p 36 ws → ws = [] ∨ ws.head? = some 0#16 ∧ ws.length ≠ 3 → short .readTable s p)

/-- A refused command, COMMIT apart, changes nothing: its reply has no data, and COMMAND_REFUSED is raised when its
packet carries the notify flag. With the cabin link locked, the result is that of the reply; with the link locked or
not, it is the answer of the command's own rule behind the checks of every command, and the command is executed as
ever (R157). -/
def Obligations.RefusalChangesNothing : Prop :=
  (∀ (code : Nat) (i : Instr) (s : State) (p : ControlPacket),
     (code, i) ∈ commandRows → code ≤ 40 → code ≠ 34 → s.link.waiting = none → s.link.lock = .locked →
     s.interp.queue.head? = some p → p.code = code →
     ∃ (r : Result) (data : List Word) (after : State), exec i s = .next (after.replied p r data) ∧
       (r.refuses code = true → data = [] ∧
         after = if p.notify then s.popCommand.raise .commandRefused (.tag p.tag) else s.popCommand)) ∧
  ∀ (code : Nat) (i : Instr) (rule : CommandRule) (s : State) (p : ControlPacket),
    (code, i, rule) ∈ commandRules → code ≠ 34 → s.link.waiting = none → s.interp.queue.head? = some p →
    p.code = code →
    let a := answerOf rule p s.popCommand
    exec i s = .next ((a.after.noteRefusal p a.result).replied p a.result a.data) ∧
    (a.result.refuses code = true →
      exec i s = .next ((if p.notify then s.popCommand.raise .commandRefused (.tag p.tag)
        else s.popCommand).replied p a.result []))

/-! ### The Link Interface -/

/-- A CONTROL packet joins the command queue; with 8 packets queued it is dropped and counted, and COMMAND_OVERRUN
is raised. The frame of every packet of the cabin link, in either direction: its kind, the length of its payload,
the payload, and the CRC-16 over all before it, every field most significant byte first. A CONTROL payload carries
the command code, the tag, the notify flag and the parameters. A notify byte that is neither 0 nor 1 is read as
clear by the model's choice (log 21). -/
def Obligations.ControlPacketQueued : Prop :=
  (∀ (s : State) (frame : List Byte) (p : ControlPacket), controlOf frame = some p → s.link.lock = .locked →
    (s.interp.queue.length < 8 →
      exec (.controlPacket frame) s = .next
        ((s.received .cabin).setInterp { s.interp with queue := s.interp.queue ++ [p] })) ∧
    (8 ≤ s.interp.queue.length →
      exec (.controlPacket frame) s = .next
        (((s.received .cabin).setInterp { s.interp with dropped := min (s.interp.dropped + 1) 65535 }).raise
          .commandOverrun .occurrence))) ∧
  let field (n : Nat) : List Byte := [BitVec.ofNat 8 (n / 256), BitVec.ofNat 8 n]
  (∀ ws : List Word, bytesOfWords ws = ws.flatMap fun w => field w.toNat) ∧
  (∀ (kind : Byte) (payload : List Byte),
    let checked := kind :: field payload.length ++ payload
    frameOf kind payload = checked ++ field (crc16 checked).toNat) ∧
  ∀ (frame : List Byte) (p : ControlPacket),
    controlOf frame = some p ↔ p.code < 65536 ∧ p.params.length ≤ 65531 ∧
      ∃ flag : Byte, (p.notify = true ↔ flag = 1#8) ∧
        frame = frameOf 3#8 (field p.code ++ [p.tag, flag] ++ p.params)

/-- The two losses of cabin link lock. A bad frame of the cabin link adds 1 to the error counter, and the
thirty-second in a row declares the loss; a bad frame of the camera link has no effect. A frame is bad unless its
length field is that of its payload, its CRC-16 is right, and its payload is that of its kind, which on the camera
link is LINE. Either loss: replies and markers are discarded, streams 0 to 6 are treated as the loss says,
STREAM_FAULT is raised for each that stalls, which adds it to the set of members, and nothing else changes. A loss
reported by the receiver while the lock is lost by declaration has these effects again by the model's choice (log
4). -/
def Obligations.LossOfCabinLinkLock : Prop :=
  let lost (s t : State) (lock : CabinLock) (errors : Nat) : Prop :=
    let stalls (k : StreamId) : Prop :=
      k ≠ camera ∧ ((s.stream k).state = .priming ∨ (s.stream k).state = .running)
    let fault := Cause.streamFault.index
    let old := s.interp.causes.get fault
    t.link = { lock := lock, errors := errors, back := [], waiting := none } ∧
      (∀ k, k ≠ camera → t.stream k = (s.stream k).afterCabinLoss) ∧ t.stream camera = s.stream camera ∧
      t.interp = { s.interp with causes := t.interp.causes } ∧
      (∀ c, c ≠ fault → t.interp.causes.get c = s.interp.causes.get c) ∧
      (s.interp.enabled.get fault = false ∨ (∀ k, ¬ stalls k) → t.interp = s.interp) ∧
      (s.interp.enabled.get fault = true → (∃ k, stalls k) → (t.interp.causes.get fault).isSome = true ∧
        (old = none ∨ (∃ m, old = some (.members m)) →
          ∃ m, t.interp.causes.get fault = some (.members m) ∧ ∀ i, m.get i = true ↔
            (∃ m', old = some (.members m') ∧ m'.get i = true) ∨ ∃ k, stalls k ∧ k.val = i.val)) ∧
      s.keepsBut [.link, .streams, .interp] t
  (∀ (s : State) (frame : List Byte),
     exec (.malformedFrame .camera frame) s = .next s ∧
     (badOn .cabin frame = true → s.link.lock = .locked →
       (s.link.errors + 1 < 32 →
         exec (.malformedFrame .cabin frame) s = .next (s.setLink { s.link with errors := s.link.errors + 1 })) ∧
       (s.link.errors + 1 = 32 →
         ∃ t : State, exec (.malformedFrame .cabin frame) s = .next t ∧ lost s t .lostDeclared 0))) ∧
  (∀ s : State, s.link.lock ≠ .lostReceiver →
     ∃ t : State, exec .cabinLinkLoss s = .next t ∧ lost s t .lostReceiver s.link.errors) ∧
  (∀ bs : List Byte,
    let next (c : BitVec 16) (bit : Bool) : BitVec 16 := if c.msb = bit then c <<< 1 else (c <<< 1) ^^^ 0x1021#16
    crc16 bs = (bs.flatMap fun b => (List.range 8).map fun i => b.getLsbD (7 - i)).foldl next 0xFFFF#16) ∧
  (∀ (link : LinkId) (frame : List Byte), frame.length < 5 → badOn link frame = true) ∧
  ∀ (kind high low c d : Byte) (payload : List Byte),
    let number (i : Nat) : Nat := (payload.getD i 0).toNat * 256 + (payload.getD (i + 1) 0).toNat
    let first := (payload.getD 0 0).toNat
    let framed := payload.length = high.toNat * 256 + low.toNat ∧ crc16 (kind :: high :: low :: payload) = c ++ d
    let line := kind = 1#8 ∧ first ≤ 7 ∧ 1 ≤ number 5 ∧ number 5 ≤ 1920 ∧ payload.length = 7 + 2 * number 5
    let sound := kind = 2#8 ∧ first ≤ 3 ∧ 1 ≤ number 1 ∧ number 1 ≤ 512 ∧ payload.length = 3 + 4 * number 1
    (badOn .cabin (kind :: high :: low :: payload ++ [c, d]) = false ↔
      framed ∧ (line ∨ sound ∨ kind = 3#8 ∧ 4 ≤ payload.length)) ∧
    (badOn .camera (kind :: high :: low :: payload ++ [c, d]) = false ↔ framed ∧ line)

/-- The lock of either link acquired, the head of the back channel sent, and the waiting reply taken into it. A lock
of the cabin link lost by the receiver is regained by the receiver's report; one lost by declaration is not, and is
regained at the next good frame. The frames that the back channel sends: a REPLY with its tag, its command code, its
result code and its data; a frame marker with its screen, the source shown or 255, and the frame counter; a flow
marker with its sound stream and PAUSE or RESUME. -/
def Obligations.LockAndBackChannelEvents : Prop :=
  (∀ r : Reply,
    let code : Byte := match r.result with
      | .ok => 0#8
      | .started => 1#8
      | .queued => 2#8
      | .merged => 3#8
      | .dropped => 4#8
      | .reverseHeld => 5#8
      | .notActive => 6#8
      | .busy => 7#8
      | .badCommand => 8#8
      | .badLength => 9#8
      | .badValue => 10#8
      | .noRoom => 11#8
      | .inUse => 12#8
      | .notDefined => 13#8
      | .reservedItem => 14#8
      | .speedHigh => 15#8
      | .invalidTable => 16#8
    (BackPacket.reply r).frame = frameOf 129#8
      ([r.tag, BitVec.ofNat 8 (r.code / 256), BitVec.ofNat 8 r.code, code] ++ bytesOfWords r.data)) ∧
  (∀ (k : ScreenId) (n : Byte),
    (BackPacket.frameMarker k none n).frame = frameOf 130#8 [BitVec.ofNat 8 k.val, 255#8, n] ∧
    ∀ j : StreamId,
      (BackPacket.frameMarker k (some j) n).frame = frameOf 130#8 [BitVec.ofNat 8 k.val, BitVec.ofNat 8 j.val, n]) ∧
  (∀ k : Fin 4,
    (BackPacket.flowMarker k .pause).frame = frameOf 131#8 [BitVec.ofNat 8 k.val, 0#8] ∧
    (BackPacket.flowMarker k .resume).frame = frameOf 131#8 [BitVec.ofNat 8 k.val, 1#8]) ∧
  ∀ s : State,
    (s.link.lock = .lostReceiver →
      exec .cabinLinkLockAcquired s = .next (s.setLink { s.link with lock := .locked })) ∧
    (s.link.lock = .lostDeclared → exec .cabinLinkLockAcquired s = .next s ∧
      ∀ (frame : List Byte) (p : LinePacket), lineOf frame = some p → p.stream ≠ camera →
        (s.stream p.stream).state = .closed →
        exec (.linePacket .cabin frame) s = .next ((s.setLink { s.link with lock := .locked, errors := 0 }).setStream
          p.stream { s.stream p.stream with strays := min ((s.stream p.stream).strays + 1) 65535 })) ∧
    (s.cameraLocked = false →
      exec .cameraLinkLock s = .next ((s.setStream camera { s.stream camera with
        startsToSkip := s.takeover.settings.discardFrames + 1 }).setCameraLocked true)) ∧
    (∀ p rest, s.link.lock = .locked → s.link.back = p :: rest →
      exec .backChannelPacketSent s = .next
        ((s.setLink { s.link with back := rest }).setPorts { s.ports with backFrame := some p.frame })) ∧
    (∀ r, s.link.lock = .locked → s.link.waiting = some r → s.link.back.length < 64 →
      exec .waitingReplyEnqueue s = .next
        (s.setLink { s.link with back := s.link.back ++ [.reply r], waiting := none }))

/-! ### Picture streams -/

/-- A LINE packet of a stream on its own link: the four cases of segment assembly, for segments that complete no
line. The other records and every other part of the state are unchanged. A LINE packet that its stream cannot take
is counted as a stray, and has no other effect. A LINE frame carries the stream, the line number, the first pixel,
the pixel count and the pixels. -/
def Obligations.SegmentAssembly : Prop :=
  (∀ (frame : List Byte) (p : LinePacket),
    let field (n : Nat) : List Byte := [BitVec.ofNat 8 (n / 256), BitVec.ofNat 8 n]
    lineOf frame = some p ↔
      p.line < 65536 ∧ p.first < 65536 ∧ 1 ≤ p.pixels.length ∧ p.pixels.length ≤ 1920 ∧
        frame = frameOf 1#8 (BitVec.ofNat 8 p.stream.val :: field p.line ++ field p.first ++
          field p.pixels.length ++ bytesOfWords p.pixels)) ∧
  (∀ (s : State) (frame : List Byte) (p : LinePacket), lineOf frame = some p → s.hears (linkOf p.stream) →
     (s.stream p.stream).state ≠ .closed →
     let r := s.stream p.stream
     let base := s.received (linkOf p.stream)
     let lost := if r.assembly.isSome then min (r.incompletes + 1) 65535 else r.incompletes
     (r.height ≤ p.line →
       exec (.linePacket (linkOf p.stream) frame) s = .next
         (base.setStream p.stream { r with assembly := none, incompletes := lost })) ∧
     (p.line < r.height → p.first = 0 → p.pixels.length < r.width →
       exec (.linePacket (linkOf p.stream) frame) s = .next
         (base.setStream p.stream { r with assembly := some ⟨p.line, p.pixels⟩, incompletes := lost })) ∧
     (∀ a, p.line < r.height → p.first ≠ 0 → r.assembly = some a → p.line = a.line →
       p.first = a.pixels.length → a.pixels.length + p.pixels.length < r.width →
       exec (.linePacket (linkOf p.stream) frame) s = .next
         (base.setStream p.stream { r with assembly := some ⟨p.line, a.pixels ++ p.pixels⟩ })) ∧
     (p.line < r.height → p.first ≠ 0 →
       (∀ a, r.assembly = some a → ¬ (p.line = a.line ∧ p.first = a.pixels.length)) →
       exec (.linePacket (linkOf p.stream) frame) s = .next
         (base.setStream p.stream { r with assembly := none, incompletes := lost }))) ∧
  (∀ (s : State) (link : LinkId) (frame : List Byte) (p : LinePacket), lineOf frame = some p → s.hears link →
     let k := if link = .camera then camera else p.stream
     (linkOf p.stream ≠ link ∨ (s.stream k).state = .closed) →
     exec (.linePacket link frame) s = .next ((s.received link).setStream k
       { s.stream k with strays := min ((s.stream k).strays + 1) 65535 }))

/-- A line that a segment completes: one from pixel 0 on, which abandons a line in assembly and counts it, or one that
goes on where the line in assembly ends; its pixels are those up to the width. On a stream 0 to 6, by the stream's
state: appended to a RUNNING queue with the timer restarted, dropped and counted at a full one, or replacing a full
one without a line 0; appended to a PARKED queue, which rolls forward when full; on an empty PRIMING queue only line 0
stays, and runs the stream when the ready level is 1. On stream 7 while starts to skip is above 0: discarded, and a
line 0 takes 1 from it; a STALLED stream becomes PRIMING; the last line 0 to skip goes on as with starts to skip 0. On
any PRIMING or STALLED stream: the trim, the line appended or counted as an overrun with STREAM_FAULT, the second
trim, and the promotion with the stall timer started; a stream that becomes RUNNING is not taken by a TAKING frame of
it, which turns to FILL, and stream 7 is handed to the Takeover Controller, which sets FRONT's timing LOCKED in
SHOWING, LINGER, and SWITCHING_OUT with exit due clear. On a RUNNING stream 7: as on the others, with the camera loss
timeout. That the controller acts in the same event is the model's reading (log 34), and that the stall timer holds
sample periods is its choice (log 2). -/
def Obligations.LineCompletion : Prop :=
  (∀ (s : State) (frame : List Byte) (p : LinePacket) (r : StreamRec) (e : QueueEntry), lineOf frame = some p →
     s.hears .cabin → p.stream ≠ camera → (s.stream p.stream).completedBy p r e →
     let base := s.received .cabin
     let timed := { r with stallTimer := Timer.startMs r.stallTimeout }
     (r.state = .running → r.queue.length < r.capacity →
       exec (.linePacket .cabin frame) s = .next
         (base.setStream p.stream { timed with queue := r.queue ++ [e] })) ∧
     (r.state = .running → r.capacity ≤ r.queue.length → (p.line ≠ 0 ∨ ∃ x ∈ r.queue, x.line = 0) →
       exec (.linePacket .cabin frame) s = .next
         ((base.setStream p.stream { timed with overruns := min (r.overruns + 1) 65535 }).raiseStreamFault
           p.stream)) ∧
     (r.state = .running → r.capacity ≤ r.queue.length → p.line = 0 → (∀ x ∈ r.queue, x.line ≠ 0) →
       exec (.linePacket .cabin frame) s = .next (base.setStream p.stream { timed with queue := [e] })) ∧
     (r.state = .parked → r.queue.length < r.capacity →
       exec (.linePacket .cabin frame) s = .next
         (base.setStream p.stream { r with queue := r.queue ++ [e] })) ∧
     (r.state = .parked → r.capacity ≤ r.queue.length →
       exec (.linePacket .cabin frame) s = .next
         (base.setStream p.stream { r with queue := (r.queue ++ [e]).drop 1 })) ∧
     (r.state = .priming ∨ r.state = .stalled → r.queue = [] → 1 ≤ r.capacity → p.line ≠ 0 →
       exec (.linePacket .cabin frame) s = .next (base.setStream p.stream { r with state := .priming })) ∧
     (r.state = .priming ∨ r.state = .stalled → r.queue = [] → 1 ≤ r.capacity → p.line = 0 →
       exec (.linePacket .cabin frame) s = .next
         (if r.readyLevel ≤ 1 then
            (base.setStream p.stream { timed with state := .running, queue := [e] }).setScreens
              (s.screens.map fun u => { u with
                frame := u.frame.map fun f =>
                  if f.source = some p.stream ∧ f.mode = .taking then { f with mode := .fill } else f })
          else base.setStream p.stream { r with state := .priming, queue := [e] }))) ∧
  (∀ (s : State) (frame : List Byte) (p : LinePacket) (r : StreamRec) (e : QueueEntry), lineOf frame = some p →
     s.cameraLocked = true → p.stream = camera → (s.stream camera).completedBy p r e →
     r.state = .priming ∨ r.state = .stalled →
     (p.line ≠ 0 → 0 < r.startsToSkip →
       exec (.linePacket .camera frame) s = .next (s.setStream camera { r with state := .priming })) ∧
     (p.line = 0 → 1 < r.startsToSkip →
       exec (.linePacket .camera frame) s = .next (s.setStream camera { r with
         state := .priming, startsToSkip := r.startsToSkip - 1 })) ∧
     (p.line = 0 → r.startsToSkip = 1 → r.queue = [] → 1 ≤ r.capacity → 1 < r.readyLevel →
       exec (.linePacket .camera frame) s = .next (s.setStream camera { r with
         state := .priming, startsToSkip := 0, queue := [e] }))) ∧
  ∀ (s : State) (frame : List Byte) (p : LinePacket) (assembled : StreamRec) (e : QueueEntry),
    lineOf frame = some p → s.hears (linkOf p.stream) → (s.stream p.stream).completedBy p assembled e →
    (p.stream = camera → assembled.startsToSkip = 0 ∨ assembled.startsToSkip = 1 ∧ p.line = 0) →
    let r := if p.stream = camera then { assembled with startsToSkip := 0 } else assembled
    let base := s.received (linkOf p.stream)
    let timer := Timer.startMs (if p.stream = camera then s.takeover.settings.cameraLoss else r.stallTimeout)
    (r.state = .priming ∨ r.state = .stalled →
      let trimmed := r.queue.dropWhile fun x => x.line != 0
      let joined := if trimmed.length < r.capacity then trimmed ++ [e] else trimmed
      let queue := if (joined.head?.map QueueEntry.line) = some 0 then joined else joined.drop 1
      let primed := { r with
        state := .priming, queue := queue
        overruns := if trimmed.length < r.capacity then r.overruns else min (r.overruns + 1) 65535 }
      let counted (t : State) := if trimmed.length < r.capacity then t else t.raiseStreamFault p.stream
      let filled (t : State) := t.setScreens (t.screens.map fun u => { u with
        frame := u.frame.map fun f =>
          if f.source = some p.stream ∧ f.mode = .taking then { f with mode := .fill } else f })
      let handed (t : State) :=
        if p.stream = camera ∧ (s.takeover.state = .showing ∨ s.takeover.state = .linger ∨
            s.takeover.state = .switchingOut ∧ s.takeover.exitDue = false) then
          t.setScreen front { t.screen front with timing := .locked }
        else t
      ((queue.head?.map QueueEntry.line) = some 0 → r.readyLevel ≤ queue.length →
        exec (.linePacket (linkOf p.stream) frame) s = .next (handed (filled (counted
          (base.setStream p.stream { primed with state := .running, stallTimer := timer }))))) ∧
      ((queue.head?.map QueueEntry.line) ≠ some 0 ∨ queue.length < r.readyLevel →
        exec (.linePacket (linkOf p.stream) frame) s = .next (counted (base.setStream p.stream primed)))) ∧
    (p.stream = camera → r.state = .running →
      (r.queue.length < r.capacity →
        exec (.linePacket .camera frame) s = .next
          (base.setStream camera { r with stallTimer := timer, queue := r.queue ++ [e] })) ∧
      (r.capacity ≤ r.queue.length → (p.line ≠ 0 ∨ ∃ x ∈ r.queue, x.line = 0) →
        exec (.linePacket .camera frame) s = .next ((base.setStream camera { r with
          stallTimer := timer, overruns := min (r.overruns + 1) 65535 }).raiseStreamFault camera)) ∧
      (r.capacity ≤ r.queue.length → p.line = 0 → (∀ x ∈ r.queue, x.line ≠ 0) →
        exec (.linePacket .camera frame) s = .next
          (base.setStream camera { r with stallTimer := timer, queue := [e] })))

/-- The expiry of a stream's stall timer, when its time is up and not behind a completion that restarted it (the
timers count sample periods by the model's choice, log 2): STALLED with its queue and line in assembly kept,
counted, STREAM_FAULT raised; for stream 7 shown by FRONT also CAMERA_LOST, and FRONT's timing FREE. A camera link
unlock: stream 7's line in assembly is abandoned and counted, its queue emptied, and a PRIMING or RUNNING stream is
STALLED, counted, with STREAM_FAULT raised; a RUNNING one that FRONT shows, in SHOWING, LINGER or SWITCHING_OUT,
also with CAMERA_LOST and FREE timing. -/
def Obligations.StallAndCameraUnlock : Prop :=
  (∀ (s : State) (k : StreamId), (s.stream k).state = .running → (s.stream k).stallTimer = .running 0 →
     let stalled := (s.setStream k { s.stream k with
       state := .stalled, stallTimer := .stopped, stalls := min ((s.stream k).stalls + 1) 65535 }).raiseStreamFault k
     (k ≠ camera ∨ s.takeover.state = .normal ∨ s.takeover.state = .switchingIn →
       exec (.stallTimerExpiry k) s = .next stalled) ∧
     (k = camera → s.takeover.state = .showing ∨ s.takeover.state = .linger ∨ s.takeover.state = .switchingOut →
       exec (.stallTimerExpiry k) s = .next ((stalled.raise .cameraLost .occurrence).setScreen front
         { s.screen front with timing := .free }))) ∧
  (∀ (s : State) (k : StreamId) (n : Nat), (s.stream k).stallTimer = .running (n + 1) →
     exec (.stallTimerExpiry k) s = .next s) ∧
  (∀ s : State, s.cameraLocked = true →
     let r := s.stream camera
     let lost := if r.assembly.isSome then min (r.incompletes + 1) 65535 else r.incompletes
     let kept := { r with assembly := none, incompletes := lost }
     let stalled := (s.setStream camera { kept with
       state := .stalled, queue := [], stallTimer := .stopped,
       stalls := min (r.stalls + 1) 65535 }).raiseStreamFault camera
     (r.state = .priming →
       exec .cameraLinkUnlock s = .next (stalled.setCameraLocked false)) ∧
     (r.state = .running → s.takeover.state = .normal ∨ s.takeover.state = .switchingIn →
       exec .cameraLinkUnlock s = .next (stalled.setCameraLocked false)) ∧
     (r.state = .running →
       s.takeover.state = .showing ∨ s.takeover.state = .linger ∨ s.takeover.state = .switchingOut →
       exec .cameraLinkUnlock s = .next (((stalled.raise .cameraLost .occurrence).setScreen front
         { s.screen front with timing := .free }).setCameraLocked false)) ∧
     (r.state = .stalled →
       exec .cameraLinkUnlock s = .next ((s.setStream camera { kept with queue := [] }).setCameraLocked false)) ∧
     (r.state = .closed → r.assembly = none →
       exec .cameraLinkUnlock s = .next (s.setCameraLocked false)))

/-- OPEN STREAM: its checks in order, and its effect on the stream's record alone. CLOSE STREAM: its two refusals,
and OK in every state of a stream 0 to 6, with its queue, line in assembly, timer and slots released and its
counters and parameters kept. -/
def Obligations.OpenAndCloseStream : Prop :=
  (∀ (s : State) (p : ControlPacket) (st w h f c rl t : Word), s.executes p 1 [st, w, h, f, c, rl, t] →
     let refused (x : Result) := exec .openStream s = .next ((s.popCommand.noteRefusal p x).replied p x [])
     let good := 16 ≤ w.toNat ∧ w.toNat ≤ 1920 ∧ 16 ≤ h.toNat ∧ h.toNat ≤ 1080 ∧ f.toNat ≤ 1 ∧ 2 ≤ c.toNat ∧
       c.toNat ≤ 32 ∧ 1 ≤ rl.toNat ∧ rl.toNat ≤ c.toNat ∧ 10 ≤ t.toNat ∧ t.toNat ≤ 1000 ∧
       (f.toNat = 1 → w.toNat % 2 = 0)
     (7 < st.toNat → refused .badValue) ∧
     (st.toNat = 7 → refused .reservedItem) ∧
     (st.toNat < 7 → ¬ good → refused .badValue) ∧
     (∀ k : StreamId, k.val = st.toNat → st.toNat < 7 → good →
       ((s.stream k).state ≠ .closed → refused .inUse) ∧
       ((s.stream k).state = .closed → 128 < s.slotsReserved + c.toNat → refused .noRoom) ∧
       ((s.stream k).state = .closed → s.slotsReserved + c.toNat ≤ 128 →
         exec .openStream s = .next ((s.popCommand.setStream k
           { state := if (s.takeover.state = .switchingIn ∨ s.takeover.state = .showing ∨
                 s.takeover.state = .linger) ∧ (s.screen front).active.source = some k then .parked else .priming
             width := w.toNat, height := h.toNat
             format := if f.toNat = 0 then .rgb565 else .ycbcr422
             capacity := c.toNat, readyLevel := rl.toNat, stallTimeout := t.toNat
             queue := [], assembly := none, stallTimer := .stopped
             startsToSkip := (s.stream k).startsToSkip
             overruns := 0, underruns := 0, incompletes := 0, stalls := 0, strays := 0 }).replied p .ok [])))) ∧
  (∀ (s : State) (p : ControlPacket) (st : Word), s.executes p 2 [st] →
     (7 < st.toNat →
       exec .closeStream s = .next ((s.popCommand.noteRefusal p .badValue).replied p .badValue [])) ∧
     (st.toNat = 7 →
       exec .closeStream s = .next ((s.popCommand.noteRefusal p .reservedItem).replied p .reservedItem [])) ∧
     (∀ k : StreamId, k.val = st.toNat → st.toNat < 7 →
       ((s.stream k).state = .closed → exec .closeStream s = .next (s.popCommand.replied p .ok [])) ∧
       ((s.stream k).state ≠ .closed → exec .closeStream s = .next ((s.popCommand.setStream k
         { s.stream k with state := .closed, queue := [], assembly := none, stallTimer := .stopped }).replied
           p .ok []))))

/-! ### Screens -/

/-- WRITE SCREEN: its checks in order, and the shadow copy replaced; the rear records keep no camera origin and no
guide enable. -/
def Obligations.WriteScreen : Prop :=
  ∀ (s : State) (p : ControlPacket) (nr w h rate src ox oy r g b hold cx cy ge : Word),
    s.executes p 4 [nr, w, h, rate, src, ox, oy, r, g, b, hold, cx, cy, ge] →
    let refused (x : Result) := exec .writeScreen s = .next ((s.popCommand.noteRefusal p x).replied p x [])
    let good := 320 ≤ w.toNat ∧ w.toNat ≤ 1920 ∧ 240 ≤ h.toNat ∧ h.toNat ≤ 1080 ∧
      (rate.toNat = 30 ∨ rate.toNat = 50 ∨ rate.toNat = 60) ∧ (src.toNat < 7 ∨ src.toNat = 65535) ∧
      ox.toNat < w.toNat ∧ oy.toNat < h.toNat ∧ r.toNat ≤ 255 ∧ g.toNat ≤ 255 ∧ b.toNat ≤ 255 ∧
      hold.toNat ≤ 15 ∧ cx.toNat < w.toNat ∧ cy.toNat < h.toNat ∧ ge.toNat ≤ 1
    (2 < nr.toNat → refused .badValue) ∧
    (¬ good → refused .badValue) ∧
    (∀ k : ScreenId, k.val = nr.toNat → good →
      ((∃ j src', j ≠ k ∧ src'.val = src.toNat ∧ s.names j src') → refused .inUse) ∧
      (∀ o : Option StreamId, (o = none ∧ src.toNat = 65535 ∨ ∃ j : StreamId, o = some j ∧ j.val = src.toNat) →
        (∀ j src', j ≠ k → o = some src' → ¬ s.names j src') →
        exec .writeScreen s = .next ((s.popCommand.setScreen k { s.screen k with
          shadow :=
            { width := w.toNat, height := h.toNat, rate := rate.toNat, source := o,
              originX := ox.toNat, originY := oy.toNat
              fill := ⟨r.setWidth 8, g.setWidth 8, b.setWidth 8⟩, holdLimit := hold.toNat
              cameraX := if k = front then cx.toNat else 0
              cameraY := if k = front then cy.toNat else 0
              guideEnable := k = front ∧ ge.toNat = 1 } }).replied p .ok [])))

/-- A FREE frame start of a rear screen, and of FRONT in NORMAL, once the frame period has passed (counted in sample
periods by the model's choice, log 2) and not before: the released commit is applied, its item leaves the pending set
and the group's outcome record says APPLIED with the item's last tag, the screen and the frame number, the frame
counter advances, the period restarts; the frame is TAKING when its source is RUNNING with a line 0 queued, and the
entries ahead of that line 0 are removed; the frame marker carries the source shown and the frame's number. -/
def Obligations.FreeFrameStart : Prop :=
  (∀ (s : State) (k : ScreenId) (n : Nat), (s.screen k).period = .running (n + 1) →
    exec (.frameStart k) s = .next s) ∧
  ∀ (s : State) (k : ScreenId), (s.screen k).started = true → (s.screen k).timing = .free →
    (s.screen k).period = .stopped ∨ (s.screen k).period = .running 0 →
    (∀ f, (s.screen k).frame = some f → (s.screen k).active.height ≤ f.nextRow) →
    k ≠ front ∨ s.takeover.state = .normal →
    let a := if (s.released (screenGroup k)).isSome then (s.screen k).shadow else (s.screen k).active
    let number := (s.screen k).counter + 1
    let window := a.source.map fun j =>
      (⟨a.originX, a.originY, (s.stream j).width, (s.stream j).height, false⟩ : Window)
    let frame (mode : FrameMode) (shown : Option StreamId) : FrameRec :=
      { source := a.source, presentation := none, mode := mode, window := window, nextRow := 0, holdRun := 0,
        lastRow := none, shown := shown, lostImage := none }
    let started (mode : FrameMode) (shown : Option StreamId) (t : State) : Prop :=
      t.screen k =
        { active := a, shadow := (s.screen k).shadow, started := true, timing := .free, counter := number,
          period := .running (48000 / a.rate), frame := some (frame mode shown) } ∧
      (∀ j, j ≠ k → t.screen j = s.screen j) ∧
      t.link = (s.handMarker (.frameMarker k shown number)).link ∧
      s.keepsBut [.screens, .streams, .link, .guide, .overlay, .tables, .interp] t ∧
      (k ≠ front → t.guide = s.guide ∧ t.interp = s.interp) ∧ s.screenItemApplied t k
    ∃ t : State, exec (.frameStart k) s = .next t ∧
      (∀ j, a.source = some j → (s.stream j).state = .running → (∃ e ∈ (s.stream j).queue, e.line = 0) →
        started .taking (some j) t ∧ t.streams = s.streams.set j
          { s.stream j with queue := (s.stream j).queue.dropWhile fun e => e.line != 0 }) ∧
      ((∀ j, a.source = some j → (s.stream j).state ≠ .running ∨ ∀ e ∈ (s.stream j).queue, e.line ≠ 0) →
        started .fill none t ∧ t.streams = s.streams)

/-- The LOCKED frame start of FRONT in a takeover state that goes on, SWITCHING_OUT among them: from SWITCHING_IN the
state becomes SHOWING with the entry deadline timer stopped and TAKEOVER_CHANGE raised; the frame is a TAKING frame of
stream 7 in the camera window with presentation PICTURE, and the entries ahead of its line 0 are removed. A frame
start of FRONT that ends SWITCHING_OUT, FREE or LOCKED, with exit due or the normal source RUNNING, CLOSED or NONE:
NORMAL, the exit deadline timer stopped, FREE timing, TAKEOVER_CHANGE raised, and a frame of the normal source. A
SCREEN-FRONT item released at a frame start of FRONT in a takeover state that goes on: applied and reported, with a
frame of the camera by the new record, and when it changes FRONT's normal source in SWITCHING_IN, SHOWING or LINGER,
the old source is unparked with its queue kept and the new one parked; in SWITCHING_OUT no request is made. A FREE
frame start of FRONT in a takeover state that goes on: presentation LOST without a RUNNING stream 7, a FILL frame that
keeps the lost image when the setting names a DEFINED one; presentation PICTURE with a RUNNING stream 7, TAKING with a
line 0 queued and missed without. In every case a SCREEN-FRONT item released there leaves the pending set, with
APPLIED, its last tag, the screen and the frame number in the outcome record, and the records of the groups without a
boundary here stand. The frame period counted in sample periods is the model's choice (log 2), and so is the order of
the owners within a frame start (log 17). -/
def Obligations.LockedFrameStart : Prop :=
  (∀ s : State, (s.screen front).started = true → (s.screen front).timing = .locked →
    (∀ f, (s.screen front).frame = some f → (s.screen front).active.height ≤ f.nextRow) →
    (s.stream camera).state = .running → (∃ e ∈ (s.stream camera).queue, e.line = 0) →
    (s.stream camera).readyLevel ≤ ((s.stream camera).queue.dropWhile fun e => e.line != 0).length →
    s.released .screenFront = none →
    let a := (s.screen front).active
    s.takeover.state = .switchingIn ∨ s.takeover.state = .showing ∨ s.takeover.state = .linger ∨
      (s.takeover.state = .switchingOut ∧ s.takeover.exitDue = false ∧ ∃ j, a.source = some j ∧
        (s.stream j).state ≠ .running ∧ (s.stream j).state ≠ .closed) →
    let number := (s.screen front).counter + 1
    ∃ t : State, exec .lockedFrameStart s = .next t ∧
      t.takeover = { s.takeover with
        state := if s.takeover.state = .switchingIn then .showing else s.takeover.state
        entryTimer := if s.takeover.state = .switchingIn then .stopped else s.takeover.entryTimer
        presentation := .picture } ∧
      (s.takeover.state = .switchingIn → s.interp.enabled.get Cause.takeoverChange.index = true →
        (t.interp.causes.get Cause.takeoverChange.index).isSome = true) ∧
      t.screen front =
        { s.screen front with
          counter := number, period := .running (48000 / a.rate)
          frame := some
            { source := some camera, presentation := some .picture, mode := .taking
              window := some ⟨a.cameraX, a.cameraY, (s.stream camera).width, (s.stream camera).height,
                s.takeover.settings.mirror⟩
              nextRow := 0, holdRun := 0, lastRow := none, shown := some camera, lostImage := none } } ∧
      (∀ j, j ≠ front → t.screen j = s.screen j) ∧
      s.keepsBut [.takeover, .interp, .screens, .streams, .link, .guide, .overlay, .tables] t ∧
      t.streams = s.streams.set camera
        { s.stream camera with queue := (s.stream camera).queue.dropWhile fun e => e.line != 0 } ∧
      t.link = (s.handMarker (.frameMarker front (some camera) number)).link ∧ s.screenItemApplied t front) ∧
  (∀ (s : State) (i : Instr), s.startsFrame front i → s.takeover.state = .switchingOut →
    let a := if (s.released .screenFront).isSome then (s.screen front).shadow else (s.screen front).active
    (s.takeover.exitDue = true ∨ a.source = none ∨
      ∃ j, a.source = some j ∧ ((s.stream j).state = .running ∨ (s.stream j).state = .closed)) →
    let number := (s.screen front).counter + 1
    let frame (mode : FrameMode) (shown : Option StreamId) : FrameRec :=
      { source := a.source, presentation := none, mode := mode
        window := a.source.map fun j => ⟨a.originX, a.originY, (s.stream j).width, (s.stream j).height, false⟩
        nextRow := 0, holdRun := 0, lastRow := none, shown := shown, lostImage := none }
    let started (mode : FrameMode) (shown : Option StreamId) (t : State) : Prop :=
      t.screen front =
        { active := a, shadow := (s.screen front).shadow, started := true, timing := .free, counter := number,
          period := .running (48000 / a.rate), frame := some (frame mode shown) } ∧
      t.link = (s.handMarker (.frameMarker front shown number)).link
    ∃ t : State, exec i s = .next t ∧
      t.takeover = { s.takeover with
        state := .normal, exitTimer := .stopped, exitDue := false, presentation := .picture } ∧
      (s.interp.enabled.get Cause.takeoverChange.index = true →
        (t.interp.causes.get Cause.takeoverChange.index).isSome = true) ∧
      (∀ j, j ≠ front → t.screen j = s.screen j) ∧ s.screenItemApplied t front ∧
      s.keepsBut [.takeover, .interp, .screens, .streams, .link, .guide, .overlay, .tables] t ∧
      (∀ j, a.source = some j → (s.stream j).state = .running → (∃ e ∈ (s.stream j).queue, e.line = 0) →
        started .taking (some j) t ∧ t.streams = s.streams.set j
          { s.stream j with queue := (s.stream j).queue.dropWhile fun e => e.line != 0 }) ∧
      ((∀ j, a.source = some j → (s.stream j).state ≠ .running ∨ ∀ e ∈ (s.stream j).queue, e.line ≠ 0) →
        started .fill none t ∧ t.streams = s.streams)) ∧
  (∀ s : State, (s.screen front).started = true → (s.screen front).timing = .free →
    (s.screen front).period = .stopped ∨ (s.screen front).period = .running 0 →
    (∀ f, (s.screen front).frame = some f → (s.screen front).active.height ≤ f.nextRow) →
    s.released .screenFront = none →
    let a := (s.screen front).active
    s.takeover.state = .showing ∨ s.takeover.state = .linger ∨
      (s.takeover.state = .switchingOut ∧ s.takeover.exitDue = false ∧ ∃ j, a.source = some j ∧
        (s.stream j).state ≠ .running ∧ (s.stream j).state ≠ .closed) →
    let number := (s.screen front).counter + 1
    let started (x : Presentation) (mode : FrameMode) (shown : Option StreamId) (lost : Option (Fin 128))
        (t : State) : Prop :=
      exec (.frameStart front) s = .next t ∧ t.takeover = { s.takeover with presentation := x } ∧
      t.screen front =
        { s.screen front with
          counter := number, period := .running (48000 / a.rate)
          frame := some
            { source := some camera, presentation := some x, mode := mode
              window := some ⟨a.cameraX, a.cameraY, (s.stream camera).width, (s.stream camera).height,
                s.takeover.settings.mirror⟩
              nextRow := 0, holdRun := 0, lastRow := none, shown := shown, lostImage := lost } } ∧
      (∀ j, j ≠ front → t.screen j = s.screen j) ∧
      t.link = (s.handMarker (.frameMarker front shown number)).link ∧ s.screenItemApplied t front ∧
      s.keepsBut [.takeover, .interp, .screens, .streams, .link, .guide, .overlay, .tables] t
    ((s.stream camera).state ≠ .running → ∃ lost t, started .lost .fill none lost t ∧ t.streams = s.streams ∧
      ∀ n, lost = some n ↔ s.takeover.settings.lostImage = some n ∧ (s.overlay.images.get n).isSome = true) ∧
    ((s.stream camera).state = .running → (∃ e ∈ (s.stream camera).queue, e.line = 0) →
      ∃ t, started .picture .taking (some camera) none t ∧ t.streams = s.streams.set camera
        { s.stream camera with queue := (s.stream camera).queue.dropWhile fun e => e.line != 0 }) ∧
    ((s.stream camera).state = .running → (∀ e ∈ (s.stream camera).queue, e.line ≠ 0) →
      ∃ t, started .picture .fill none none t ∧ t.streams = s.streams)) ∧
  ∀ (s : State) (i : Instr), s.startsFrame front i → (s.released .screenFront).isSome = true →
    let a := (s.screen front).shadow
    let old := s.frontSource
    let new := a.source
    let goesOut := s.takeover.state = .switchingOut ∧ s.takeover.exitDue = false ∧
      ∃ j, new = some j ∧ (s.stream j).state ≠ .running ∧ (s.stream j).state ≠ .closed
    let takes := (s.stream camera).state == .running && (s.stream camera).queue.any fun e => e.line == 0
    let given : Presentation := if (s.stream camera).state = .running then .picture else .lost
    let number := (s.screen front).counter + 1
    s.parksSource ∨ goesOut → old ≠ some camera → new ≠ some camera →
    ∃ t : State, exec i s = .next t ∧
      t.takeover = { s.takeover with
        state := if s.takeover.state = .switchingIn then .showing else s.takeover.state
        entryTimer := if s.takeover.state = .switchingIn then .stopped else s.takeover.entryTimer
        presentation := given } ∧
      (∃ lost : Option (Fin 128),
        t.screen front =
          { s.screen front with
            active := a, counter := number, period := .running (48000 / a.rate)
            frame := some
              { source := some camera, presentation := some given, mode := if takes then .taking else .fill
                window := some ⟨a.cameraX, a.cameraY, (s.stream camera).width, (s.stream camera).height,
                  s.takeover.settings.mirror⟩
                nextRow := 0, holdRun := 0, lastRow := none
                shown := if takes then some camera else none, lostImage := lost } } ∧
        ∀ n, lost = some n ↔
          given = .lost ∧ s.takeover.settings.lostImage = some n ∧ (s.overlay.images.get n).isSome = true) ∧
      t.stream camera = (if takes then
        { s.stream camera with queue := (s.stream camera).queue.dropWhile fun e => e.line != 0 } else s.stream camera) ∧
      t.link = (s.handMarker (.frameMarker front (if takes then some camera else none) number)).link ∧
      (∀ j, j ≠ front → t.screen j = { s.screen j with frame := (t.screen j).frame }) ∧
      s.screenItemApplied t front ∧
      (s.parksSource → old ≠ new →
        (∀ j, old = some j → t.stream j = (s.stream j).afterUnpark) ∧
        ∀ j, new = some j → t.stream j = (s.stream j).afterPark) ∧
      (∀ j, j ≠ camera → goesOut ∨ old = new ∨ (old ≠ some j ∧ new ≠ some j) → t.stream j = s.stream j) ∧
      s.keepsBut [.takeover, .interp, .screens, .streams, .link, .guide, .overlay, .tables] t

/-- The line demand of a window row of a TAKING frame on a rear screen without overlay objects: the line of that
number is taken, placed and shown; without it an underrun is counted and the row repeats the last drawn row within
the hold limit, or shows the fill colour; the columns outside the window show the fill colour. The line demand of
any row of any screen, FRONT among them, with its guide pixels, overlay objects and lost image: a TAKING frame whose
source has left RUNNING turns to FILL; a FILL frame, a frame without a window and a row outside the window touch no
queue; the row sent has the layers of each pixel over that base; more than eight candidates count an overflow row,
and raise SPAN_OVERFLOW with the screen when the frame has raised none yet. A window row wider than its line is left
out here: its colours are free values (log 18). That the lost image is drawn from the descriptor and bytes that
stand at the line demand is the model's choice (log 19). -/
def Obligations.WindowRowDemand : Prop :=
  (∀ (s : State) (k : ScreenId) (f : FrameRec) (w : Window) (j : StreamId), k ≠ front →
    (s.screen k).started = true → (s.screen k).frame = some f → f.nextRow < (s.screen k).active.height →
    f.mode = .taking → f.source = some j → (s.stream j).state = .running → f.window = some w →
    w.top ≤ f.nextRow → f.nextRow < w.top + w.height → f.lostImage = none →
    (s.overlay.screens.get k).list = [] →
    let r := f.nextRow - w.top
    let queue := (s.stream j).queue.dropWhile fun e => decide (e.line < r)
    let a := (s.screen k).active
    let next (f' : FrameRec) := { s.screen k with frame := some { f' with nextRow := f.nextRow + 1 } }
    let shows (t : State) (base : Option (List RGB)) : Prop :=
      s.keepsBut [.streams, .screens, .ports] t ∧ (∀ i, i ≠ k → t.screen i = s.screen i) ∧
      ∃ px, t.ports = { s.ports with display := s.ports.display.set k (some ⟨f.nextRow, px⟩) } ∧
        px.length = a.width ∧
        ∀ col, col < a.width → px[col]? = some (match base with
          | some line => if w.left ≤ col ∧ col < w.left + w.width then line.getD (col - w.left) a.fill else a.fill
          | none => a.fill)
    (∀ e rest, queue = e :: rest → e.line = r → w.width ≤ e.pixels.length →
      ∃ t : State, exec (.lineDemand k) s = .next t ∧
        t.streams = s.streams.set j { s.stream j with queue := rest } ∧
        let base := placeLine w s.freeCount (convertLine (s.stream j).format e.pixels)
        t.screen k = next { f with lastRow := some base, holdRun := 0 } ∧ shows t (some base)) ∧
    ((∀ e, queue.head? = some e → r < e.line) →
      ∃ t : State, exec (.lineDemand k) s = .next t ∧
        t.streams = s.streams.set j { s.stream j with
          queue := queue, underruns := min ((s.stream j).underruns + 1) 65535 } ∧
        let run := min (f.holdRun + 1) 16
        t.screen k = next { f with holdRun := run } ∧
        shows t (if run ≤ a.holdLimit then f.lastRow else none))) ∧
  ∀ (s : State) (k : ScreenId) (f : FrameRec), (s.screen k).started = true → (s.screen k).frame = some f →
    f.nextRow < (s.screen k).active.height →
    let row := f.nextRow
    let a := (s.screen k).active
    let cs := s.overlay.candidates k (s.takeover.state != .normal) row
    let sc := s.overlay.screens.get k
    let sends (streams : Tab StreamRec 8) (f' : FrameRec) (base : Option (List RGB)) : Prop :=
      ∃ (t : State) (px : List RGB), exec (.lineDemand k) s = .next t ∧ t.streams = streams ∧
        t.screens = s.screens.set k { s.screen k with frame := some { f' with nextRow := row + 1 } } ∧
        t.ports = { s.ports with display := s.ports.display.set k (some ⟨row, px⟩) } ∧ px.length = a.width ∧
        (∀ col, col < a.width → px[col]? = some (s.outputPixel k f (spanList cs) base row col)) ∧
        (cs.length ≤ 8 → t.overlay = s.overlay ∧ t.interp = s.interp) ∧
        (8 < cs.length →
          t.overlay = { s.overlay with
            screens := s.overlay.screens.set k
              { sc with overflows := min (sc.overflows + 1) 65535, raised := true } } ∧
          t.interp = (if sc.raised then s.interp
            else (s.raise .spanOverflow (.member (k.castLE (Nat.le_of_ble_eq_true rfl)))).interp)) ∧
        s.keepsBut [.streams, .screens, .ports, .overlay, .interp] t
    (f.mode = .fill ∨ f.window = none ∨ (∃ w, f.window = some w ∧ (row < w.top ∨ w.top + w.height ≤ row)) →
      sends s.streams f none) ∧
    ∀ (j : StreamId) (w : Window), f.mode = .taking → f.source = some j → f.window = some w → w.top ≤ row →
      row < w.top + w.height →
      let r := row - w.top
      let queue := (s.stream j).queue.dropWhile fun e => decide (e.line < r)
      ((s.stream j).state ≠ .running → sends s.streams { f with mode := .fill } none) ∧
      (∀ e rest, (s.stream j).state = .running → queue = e :: rest → e.line = r → w.width ≤ e.pixels.length →
        let base := placeLine w s.freeCount (convertLine (s.stream j).format e.pixels)
        sends (s.streams.set j { s.stream j with queue := rest }) { f with lastRow := some base, holdRun := 0 }
          (some base)) ∧
      ((s.stream j).state = .running → (∀ e, queue.head? = some e → r < e.line) →
        let run := min (f.holdRun + 1) 16
        sends (s.streams.set j { s.stream j with
            queue := queue, underruns := min ((s.stream j).underruns + 1) 65535 })
          { f with holdRun := run } (if run ≤ a.holdLimit then f.lastRow else none))

/-- The blend of an upper colour over a lower one by an alpha, and the layers of an output pixel that it blends,
from the bottom upward: the guide pixel, the span list in its order, the lost image. The lost image: on a LOST frame
that keeps one, centred in the camera window, within window and image, its colours from the screen's active
palettes. Its descriptor, bytes and palette are those that stand at the line demand, by the model's choice (log 19).
-/
def Obligations.BlendFormula : Prop :=
  (∀ s d a : Byte,
    let a' := a.toNat + a.toNat / 128
    a' ≤ 256 ∧
      (blendByte s d a).toNat = (s.toNat * a' + d.toNat * (256 - a') + 128) / 256 ∧
      (a = 255 → a' = 256 ∧ blendByte s d a = s) ∧ (a = 0 → a' = 0 ∧ blendByte s d a = d) ∧
      (a = 127 → a' = 127) ∧ (a = 128 → a' = 129) ∧
      (a.toNat < 255 → a.toNat ≠ 127 → (a.toNat + 1) + (a.toNat + 1) / 128 = a' + 1)) ∧
    (∀ (s : RGBA) (d : RGB), blend s d = ⟨blendByte s.r d.r s.a, blendByte s.g d.g s.a, blendByte s.b d.b s.a⟩) ∧
    (∀ (s : State) (k : ScreenId) (f : FrameRec) (spans : List ActiveCopy) (base : Option (List RGB)) (row col : Nat),
      let layer (o : Option RGBA) (d : RGB) := match o with
        | some x => blend x d
        | none => d
      s.outputPixel k f spans base row col =
        layer (s.lostPixel k f row col)
          (spans.foldl (fun d c => layer (s.overlay.objectPixel k row col c) d)
            (layer (s.guidePixel k f row col) (basePixel f.window base (s.screen k).active.fill col)))) ∧
    ∀ (s : State) (k : ScreenId) (f : FrameRec) (row col : Nat),
      (f.lostImage = none → s.lostPixel k f row col = none) ∧
      ∀ (n : Fin 128) (d : ImageDesc) (w : Window), f.lostImage = some n → s.overlay.images.get n = some d →
        f.window = some w →
        let x : Int := w.left + ((w.width : Int) - d.width).fdiv 2
        let y : Int := w.top + ((w.height : Int) - d.height).fdiv 2
        (∀ c r : Nat, c < d.width → r < d.height → (col : Int) = x + c → (row : Int) = y + r → w.left ≤ col →
          col < w.left + w.width → w.top ≤ row → row < w.top + w.height →
          s.lostPixel k f row col = some (s.overlay.pixelColor k d r c)) ∧
        ((col : Int) < x ∨ x + d.width ≤ col ∨ (row : Int) < y ∨ y + d.height ≤ row ∨ col < w.left ∨
          w.left + w.width ≤ col ∨ row < w.top ∨ w.top + w.height ≤ row →
          s.lostPixel k f row col = none)

/-- The conversion of a line's pixels to 8-bit colours in both formats, and their placing by the mirror. -/
def Obligations.PixelConversion : Prop :=
  (∀ ws : List Word, convertLine .rgb565 ws = ws.map rgb565) ∧ convertLine .ycbcr422 [] = [] ∧
  (∀ r g b : Nat, r < 32 → g < 64 → b < 32 →
    rgb565 (BitVec.ofNat 16 (2048 * r + 32 * g + b)) =
      ⟨BitVec.ofNat 8 (r * 8 + r / 4), BitVec.ofNat 8 (g * 4 + g / 16), BitVec.ofNat 8 (b * 8 + b / 4)⟩) ∧
    (∀ (cb y0 cr y1 : Byte) (rest : List Word),
      let clamp (i : Int) : Byte := BitVec.ofNat 8 (max 0 (min 255 i)).toNat
      let pixel (y : Byte) : RGB :=
        ⟨clamp (y.toNat + (359 * ((cr.toNat : Int) - 128) + 128) / 256),
          clamp (y.toNat - (88 * ((cb.toNat : Int) - 128) + 183 * ((cr.toNat : Int) - 128) + 128) / 256),
          clamp (y.toNat + (454 * ((cb.toNat : Int) - 128) + 128) / 256)⟩
      convertLine .ycbcr422 (wordOfBytes cb y0 :: wordOfBytes cr y1 :: rest) =
        pixel y0 :: pixel y1 :: convertLine .ycbcr422 rest) ∧
    ∀ (w : Window) (n : Nat) (line : List RGB) (c : Nat) (fill : RGB), line.length = w.width → c < w.width →
      (placeLine w n line)[c]? = some (line.getD (if w.mirror then w.width - 1 - c else c) fill)

/-! ### Vehicle signals -/

/-- A sample of the reverse line, taken when the sample timer is at its time and not before (counted in sample periods
by the model's choice, log 2): the agree count returns to 0 or is incremented, and at the fourth differing sample the
filtered level changes; the sample timer restarts. The fourth ENGAGED sample with source LINE: REVERSE is claimed with
its change flag, the park tone is judged, and the takeover follows by its state: from NORMAL FRONT's normal source is
parked, stream 7 is reopened, FRONT's timing is LOCKED, the entry deadline timer runs, and the entry chime is
requested as PLAY CHIME requests a pattern, NONE and an EMPTY pattern having no effect; in SWITCHING_IN and SHOWING
only the claim changes; from LINGER and SWITCHING_OUT it is SHOWING again with the timer stopped, and from
SWITCHING_OUT the source is parked again and the timing is LOCKED with a RUNNING stream 7. The fourth RELEASED sample:
REVERSE is removed with its change flag; with MANUAL claimed the state stays; without it SHOWING becomes LINGER when
the linger time is above 0 and SPEED is not FRESH above the linger speed limit, with FRONT and the streams as they
were, and otherwise SWITCHING_OUT, as SWITCHING_IN does, and in the other states only the claim changes; the park tone
is not eligible any more, and is cut. That a timer holds sample periods (log 2) and that the reopened record of stream
7 keeps its stall timeout (log 35) are the model's choices. -/
def Obligations.ReverseLineFilter : Prop :=
  (∀ (s : State) (l : LineLevel) (n : Nat), s.signals.filter.timer = .running (n + 1) →
     exec (.reverseLineSample l) s = .next s) ∧
  (∀ (s : State) (l : LineLevel), s.signals.filter.timer = .running 0 →
     let x : Level := if l = .high ↔ s.signals.settings.polarity = .activeHigh then .engaged else .released
     let f := s.signals.filter
     let timer := Timer.startMs s.signals.settings.interval
     (x = f.level → exec (.reverseLineSample l) s = .next (s.setSignals { s.signals with
       filter := { level := f.level, agree := 0, timer := timer, last := x } })) ∧
     (x ≠ f.level → f.agree < 3 → exec (.reverseLineSample l) s = .next (s.setSignals { s.signals with
       filter := { level := f.level, agree := f.agree + 1, timer := timer, last := x } })) ∧
     (x ≠ f.level → f.agree = 3 → ∃ t : State, exec (.reverseLineSample l) s = .next t ∧
       t.signals = { s.signals with
         filter := { level := x, agree := 0, timer := timer, last := x }, request := t.signals.request } ∧
       s.keepsBut [.signals, .takeover, .streams, .screens, .chimes, .interp] t ∧
       s.reformed t False True ∧
       (s.signals.settings.source = .line → t.signals.request = x))) ∧
  (∀ (s : State) (l : LineLevel), s.signals.filter.timer = .running 0 →
     s.signals.settings.polarity.sample l = .engaged → s.signals.filter.level = .released →
     s.signals.filter.agree = 3 → s.signals.settings.source = .line →
     s.signals.request = .released → s.takeover.started = true →
     ∃ t : State, exec (.reverseLineSample l) s = .next t ∧
       t.signals.request = .engaged ∧
       s.keepsBut [.signals, .takeover, .streams, .screens, .chimes, .interp] t ∧
       s.claimTaken t { s.takeover with reverse := true, reverseChanged := true } ∧
       s.parkJudged true fun u dropped =>
         let silent : Prop := t.chimes = u ∧ t.interp = (s.raisedFor dropped).interp
         (s.takeover.state ≠ .normal ∨ s.takeover.settings.entryChime = none → silent) ∧
         ∀ q, s.takeover.state = .normal → s.takeover.settings.entryChime = some q →
           (u.patterns.get q = none → silent) ∧
           ∀ pat, u.patterns.get q = some pat →
             u.requestTaken s.signals.nearest.value q pat fun played _ lost =>
               t.chimes = played ∧ t.interp = ((s.raisedFor dropped).raisedFor lost).interp) ∧
  ∀ (s : State) (l : LineLevel), s.signals.filter.timer = .running 0 →
    s.signals.settings.polarity.sample l = .released → s.signals.filter.level = .engaged →
    s.signals.filter.agree = 3 → s.signals.settings.source = .line → s.signals.request = .engaged →
    s.takeover.started = true →
    let removed := { s.takeover with reverse := false, reverseChanged := true }
    let fast := (s.signal .speed).state = .fresh ∧
      (s.takeover.settings.lingerSpeed : Int) < (s.signal .speed).value
    ∃ t : State, exec (.reverseLineSample l) s = .next t ∧ t.signals.request = .released ∧
      t.chimes.eligible = false ∧ (s.chimes.eligible = true → chimeLaw s → t.chimes.present 15 = false) ∧
      s.keepsBut [.signals, .takeover, .streams, .screens, .chimes, .interp] t ∧
      s.claimDropped t removed (0 < s.takeover.settings.lingerTime ∧ ¬ fast)

/-- The five steps from a frame's bytes to a signal value, and the data bytes an entry needs. A value applied to a
record makes it FRESH, restarts its stale timer, counted in sample periods by the model's choice (log 2), sets the
clamped flag when it was clamped, and the changed flag when the value or the state changes. -/
def Obligations.SignalExtraction : Prop :=
  ∀ (e : SignalEntry) (data : List Byte) (t : Target) (timeout : Nat) (r : SignalRec),
    let b (k : Nat) : Nat := (data.getD (e.startByte + k) 0).toNat
    let word :=
      if e.bitOffset + e.length ≤ 8 then b 0
      else if e.order = .msbFirst then b 0 * 256 + b 1 else b 0 + b 1 * 256
    let field := word / 2 ^ e.bitOffset % 2 ^ e.length
    let raw : Int := if e.signed = true ∧ 2 ^ (e.length - 1) ≤ field then (field : Int) - 2 ^ e.length else field
    let value := (raw * e.multiplier).fdiv (2 ^ e.shift) + e.offset
    let lo : Int := match t with
      | .steer => -7800
      | _ => 0
    let hi : Int := match t with
      | .steer => 7800
      | .speed => 3000
      | .reverse => 1
      | _ => 1000
    e.scaled data = value ∧
      (SignalRec.apply t timeout value r).value = max lo (min hi value) ∧
      ((SignalRec.apply t timeout value r).clamped = true ↔ r.clamped = true ∨ value < lo ∨ hi < value) ∧
      (SignalRec.apply t timeout value r).state = .fresh ∧
      (SignalRec.apply t timeout value r).timer = .running (48 * timeout) ∧
      ((SignalRec.apply t timeout value r).changed = true ↔
        r.changed = true ∨ max lo (min hi value) ≠ r.value ∨ r.state ≠ .fresh) ∧
      e.bytesNeeded = e.startByte + if e.bitOffset + e.length ≤ 8 then 1 else 2

/-- A remote frame has no effect, and by the model's choice no more has a frame of a shape that the bus does not give
(log 1). Any other received CAN frame: every matching entry is applied to its record or counted as a short frame, and
no other record changes. With a DIST record changed the nearest distance is worked out again, with the REVERSE record
changed the reverse request, whose change is an edge for the Takeover Controller. The takeover record, the streams and
the screens follow a changed SPEED and then the edge, engaged or released, by the state that each finds; a changed
distance and an edge have the park tone judged. That order (log 16), timers in sample periods (log 2) and the stall
timeout that a reopened stream 7 keeps (log 35) are the model's choices. -/
def Obligations.CanFrameReception : Prop :=
  (∀ (s : State) (f : CanFrame), f.remote = true ∨ f.wellFormed = false →
    exec (.receivedCanFrame f) s = .next s) ∧
  ∀ (s : State) (f : CanFrame), f.wellFormed = true → f.remote = false →
    let entry (x : Target) := s.signals.map.get x.index
    let hit (e : SignalEntry) := e.extended = f.extended ∧ e.ident = f.ident
    ∃ t : State, exec (.receivedCanFrame f) s = .next t ∧
      (∀ x e, entry x = some e → hit e → e.bytesNeeded ≤ f.data.length →
        t.signal x = SignalRec.apply x e.staleTimeout (e.scaled f.data) (s.signal x)) ∧
      (∀ x e, entry x = some e → ¬ (hit e ∧ e.bytesNeeded ≤ f.data.length) → t.signal x = s.signal x) ∧
      (∀ x, entry x = none → t.signal x = s.signal x) ∧
      (s.signals.shortFrames ≤ 65535 → t.signals.shortFrames = min (s.signals.shortFrames +
        (Target.all.filter fun x => (entry x).any fun e => e.extended == f.extended && e.ident == f.ident &&
          decide (f.data.length < e.bytesNeeded)).length) 65535) ∧
      t.signals.map = s.signals.map ∧ t.signals.settings = s.signals.settings ∧
      t.signals.filter = s.signals.filter ∧ s.keepsBut [.signals, .takeover, .streams, .screens, .chimes, .interp] t ∧
      s.reformed t (∃ x, isDist x ∧ s.moved t x) (s.moved t .reverse) ∧
      ((∀ x e, entry x = some e → ¬ hit e) → t = s)

/-- The expiry of a record's stale timer, when its time is up and not behind an application that restarted it (counted
in sample periods by the model's choice, log 2): STALE with its value kept, the timer stopped, the changed flag set,
SIGNAL_STALE raised with the target in its set; for a DIST target the nearest distance is worked out again, for
REVERSE the reverse request, whose change is an edge, which the takeover record, the streams and the screens follow by
the state it finds; that a reopened stream 7 keeps its stall timeout is the model's choice (log 35). The nearest
distance worked out from the DIST records, and the reverse request by the reverse source. -/
def Obligations.StaleAndFormedSignals : Prop :=
  (∀ (s : State) (x : Target) (n : Nat), (s.signal x).timer = .running (n + 1) →
     exec (.staleTimerExpiry x) s = .next s) ∧
  (∀ (s : State) (x : Target), (s.signal x).state = .fresh → (s.signal x).timer = .running 0 →
     ∃ t : State, exec (.staleTimerExpiry x) s = .next t ∧
       t.signal x = { s.signal x with state := .stale, timer := .stopped, changed := true } ∧
       (∀ y, y ≠ x → t.signal y = s.signal y) ∧
       t.signals.map = s.signals.map ∧ t.signals.settings = s.signals.settings ∧
       t.signals.filter = s.signals.filter ∧ t.signals.shortFrames = s.signals.shortFrames ∧
       s.keepsBut [.signals, .takeover, .streams, .screens, .chimes, .interp] t ∧
       (s.interp.enabled.get Cause.signalStale.index = true →
         (s.interp.causes.get Cause.signalStale.index = none ∨
           ∃ m, s.interp.causes.get Cause.signalStale.index = some (.members m)) →
         ∃ m, t.interp.causes.get Cause.signalStale.index = some (.members m) ∧
           ∀ k : Fin 16, k.val = x.index.val → m.get k = true) ∧
       s.reformed t (isDist x) (x = .reverse) ∧
       (x = .steer ∨ x = .speed → t.signals.nearest = s.signals.nearest ∧ t.signals.request = s.signals.request ∧
         t.takeover = s.takeover)) ∧
  (∀ u : SignalUnit,
     let dist (x : Target) := u.records.get x.index
     ((∀ x : Target, isDist x → (dist x).state ≠ .fresh) → u.formNearest = ⟨1000, false⟩) ∧
     ((∃ x : Target, isDist x ∧ (dist x).state = .fresh) →
       u.formNearest.fresh = true ∧
       (∃ x : Target, isDist x ∧ (dist x).state = .fresh ∧ u.formNearest.value = (dist x).value.toNat) ∧
       ∀ x : Target, isDist x → (dist x).state = .fresh → u.formNearest.value ≤ (dist x).value.toNat) ∧
     let line := u.filter.level = .engaged
     let can := (dist .reverse).state = .fresh ∧ (dist .reverse).value = 1
     (u.formRequest = .engaged ↔
       match u.settings.source with
       | .line => line
       | .can => can
       | .either => line ∨ can))

/-- The writes of the vehicle signals. Their checks, BAD_VALUE ahead of BUSY in a save: the values of the four
settings; the target, and the ranges of the twelve fields of an entry, with the end of its bits within the bytes it
reads. Accepted outside a save: the four settings with their effect on the filter, and a place of the map written or
emptied with its record set to NEVER; the nearest distance and the reverse request are worked out again as the change
asks, and the takeover follows an edge by the state it finds. That a timer holds sample periods (log 2) and that a
reopened stream 7 keeps its stall timeout (log 35) are the model's choices. That a place is emptied by REMOVE as the
second of two fields and written by twelve fields after the target is the model's choice (log 11). A flag or choice
outside its coding is refused with BAD_VALUE by the model's choice (log 12). -/
def Obligations.SignalTableWrites : Prop :=
  (∀ i po so br : Word,
    let good := i.toNat ∈ [1, 2, 5, 10] ∧ po.toNat ≤ 1 ∧ so.toNat ≤ 2 ∧ br.toNat ∈ [125, 250, 500, 1000]
    (¬ good → signalSettingsOf i po so br = none) ∧
    (good → signalSettingsOf i po so br =
      some ⟨i.toNat, if po.toNat = 0 then .activeHigh else .activeLow,
        if so.toNat = 0 then .line else if so.toNat = 1 then .can else .either, br.toNat⟩)) ∧
  (∀ ext hi lo st off len ord sg mul sh add stale : Word,
    let ident := hi.toNat * 65536 + lo.toNat
    let good := ext.toNat ≤ 1 ∧ ident < (if ext.toNat = 1 then 2 ^ 29 else 2 ^ 11) ∧ st.toNat ≤ 7 ∧ off.toNat ≤ 7 ∧
      1 ≤ len.toNat ∧ len.toNat ≤ 16 ∧ ord.toNat ≤ 1 ∧ sg.toNat ≤ 1 ∧ sh.toNat ≤ 15 ∧ 10 ≤ stale.toNat ∧
      stale.toNat ≤ 2000 ∧ off.toNat + len.toNat ≤ 16 ∧ (8 < off.toNat + len.toNat → st.toNat ≤ 6)
    let fields := [ext, hi, lo, st, off, len, ord, sg, mul, sh, add, stale]
    (¬ good → signalEntryOf fields = none) ∧
    (good → signalEntryOf fields = some
      { extended := ext.toNat == 1, ident := ident, startByte := st.toNat, bitOffset := off.toNat
        length := len.toNat, order := if ord.toNat = 0 then .msbFirst else .lsbFirst, signed := sg.toNat == 1
        multiplier := mul.toInt, shift := sh.toNat, offset := add.toInt, staleTimeout := stale.toNat })) ∧
  (∀ (s : State) (p : ControlPacket),
    let refused (i : Instr) := exec i s = .next ((s.popCommand.noteRefusal p .badValue).replied p .badValue [])
    (∀ i po so br : Word, s.executes p 6 [i, po, so, br] → signalSettingsOf i po so br = none →
      refused .writeSignalSettings) ∧
    (∀ (tg : Word) (fields : List Word), s.executes p 7 (tg :: fields) → fields.length = 12 →
      7 ≤ tg.toNat ∨ signalEntryOf fields = none → refused .writeSignalEntry) ∧
    ∀ tg rm : Word, s.executes p 7 [tg, rm] → 7 ≤ tg.toNat ∨ rm ≠ 0xFFFF#16 → refused .writeSignalEntry) ∧
  (∀ (s : State) (p : ControlPacket), s.loader.saveStep ≠ .none →
    let busy (i : Instr) := exec i s = .next ((s.popCommand.noteRefusal p .busy).replied p .busy [])
    (∀ (i po so br : Word) (x : SignalSettings), s.executes p 6 [i, po, so, br] →
      signalSettingsOf i po so br = some x → busy .writeSignalSettings) ∧
    (∀ (tg : Word) (fields : List Word), s.executes p 7 (tg :: fields) → tg.toNat < 7 →
      (fields = [0xFFFF#16] ∨ fields.length = 12 ∧ ∃ e, signalEntryOf fields = some e) →
      busy .writeSignalEntry)) ∧
  ∀ (s : State) (p : ControlPacket), s.loader.saveStep = .none →
    (∀ i po so br : Word, ∀ x, s.executes p 6 [i, po, so, br] → signalSettingsOf i po so br = some x →
      ∃ t : State, exec .writeSignalSettings s = .next (t.replied p .ok []) ∧
        t.signals.settings = x ∧ t.signals.map = s.signals.map ∧ t.signals.records = s.signals.records ∧
        t.signals.filter = { s.signals.filter with
          timer := if s.signals.settings.interval = x.interval then s.signals.filter.timer
            else .running (48 * x.interval)
          agree := if s.signals.settings.polarity = x.polarity then s.signals.filter.agree else 0 } ∧
        t.signals.nearest = s.signals.nearest ∧ t.signals.shortFrames = s.signals.shortFrames ∧
        s.reformed t False True ∧
        s.popCommand.keepsBut [.signals, .takeover, .streams, .screens, .chimes, .interp] t) ∧
    (∀ (x : Target) (tg : Word) (fields : List Word) (e : Option SignalEntry),
      s.executes p 7 (tg :: fields) → tg.toNat = x.index.val →
      (fields = [0xFFFF#16] ∧ e = none ∨ fields.length = 12 ∧ ∃ e', e = some e' ∧ signalEntryOf fields = some e') →
      ∃ t : State, exec .writeSignalEntry s = .next (t.replied p .ok []) ∧
        t.signals.map = s.signals.map.set x.index e ∧
        t.signal x =
          { value := restValue x, state := .never, timer := .stopped, clamped := false,
            changed := (s.signal x).changed || (s.signal x).state != .never || (s.signal x).value != restValue x } ∧
        (∀ y, y ≠ x → t.signal y = s.signal y) ∧ t.signals.settings = s.signals.settings ∧
        t.signals.filter = s.signals.filter ∧ t.signals.shortFrames = s.signals.shortFrames ∧
        s.reformed t (isDist x ∧ s.moved t x) (x = .reverse ∧ s.moved t x) ∧
        s.popCommand.keepsBut [.signals, .takeover, .streams, .screens, .chimes, .interp] t)

/-! ### Camera takeover -/

/-- The expiry of the entry deadline timer: SHOWING, TAKEOVER_CHANGE raised, the timer stopped; without a RUNNING
stream 7 also FREE timing and CAMERA_LOST. The expiries of the linger timer and of the exit deadline timer. By the
model's choice a timer counts sample periods and an expiry occurs when it is at its time, not before (log 2), and a
row whose expiry does not occur, as outside SWITCHING_IN, changes nothing (log 1). -/
def Obligations.TakeoverTimerExpiries : Prop :=
  (∀ s : State,
     let shown := (s.setTakeover { s.takeover with state := .showing, entryTimer := .stopped }).raise
       .takeoverChange .occurrence
     (s.takeover.state = .switchingIn → s.takeover.entryTimer = .running 0 →
       ((s.stream camera).state ≠ .running →
         exec .entryDeadlineExpiry s = .next
           ((shown.setScreen front { s.screen front with timing := .free }).raise .cameraLost .occurrence)) ∧
       ((s.stream camera).state = .running → exec .entryDeadlineExpiry s = .next shown)) ∧
     (s.takeover.state ≠ .switchingIn → exec .entryDeadlineExpiry s = .next s)) ∧
  (∀ (s : State) (n : Nat),
     (s.takeover.entryTimer = .running (n + 1) → exec .entryDeadlineExpiry s = .next s) ∧
     (s.takeover.lingerTimer = .running (n + 1) → exec .lingerTimerExpiry s = .next s) ∧
     (s.takeover.exitTimer = .running (n + 1) → exec .exitDeadlineExpiry s = .next s)) ∧
  (∀ s : State,
     (s.takeover.state = .linger → s.takeover.lingerTimer = .running 0 →
       ∃ t : State, exec .lingerTimerExpiry s = .next t ∧ s.switchedOut t s.takeover ∧
         s.keepsBut [.takeover, .streams, .screens] t) ∧
     (s.takeover.state = .switchingOut → s.takeover.exitTimer = .running 0 →
       exec .exitDeadlineExpiry s = .next ((s.setTakeover { s.takeover with
         exitDue := true, exitTimer := .stopped }).setScreen front { s.screen front with timing := .free })))

/-- START VIEW: refused above the manual speed limit, OK without effect when MANUAL is claimed, and otherwise MANUAL
added with its change flag. From NORMAL it starts the switch-in: FRONT's normal source parked, stream 7 reopened,
FRONT's timing LOCKED and the entry deadline timer started; from LINGER and SWITCHING_OUT it returns to SHOWING with
the timer of that state stopped, and from SWITCHING_OUT the source is parked again and the timing is LOCKED with a
RUNNING stream 7; elsewhere only the claim changes; it never requests a chime. STOP VIEW by the claim set and the
state it finds: the reply, MANUAL removed, and the next state, with the source unparked on the way out. That the stall
timeout of a reopened stream 7 is left (log 35) and that a timer holds sample periods (log 2) are the model's choices.
A SPEED value applied from a CAN frame that changes the record: above the manual speed limit it removes MANUAL with
its change flag and the speed removal flag and raises TAKEOVER_CHANGE, and the view ends unless REVERSE is claimed;
above the linger speed limit it ends LINGER; otherwise the takeover is unchanged. -/
def Obligations.StartAndStopView : Prop :=
  (∀ (s : State) (p : ControlPacket), s.executes p 10 [] →
     let above := (s.signal .speed).state = .fresh ∧
       (s.takeover.settings.manualSpeed : Int) < (s.signal .speed).value
     (above → exec .startView s = .next ((s.popCommand.noteRefusal p .speedHigh).replied p .speedHigh [])) ∧
     (¬ above → s.takeover.manual = true → exec .startView s = .next (s.popCommand.replied p .ok [])) ∧
     (¬ above → s.takeover.manual = false →
       ∃ t : State, exec .startView s = .next (t.replied p .ok []) ∧
         t.takeover.manual = true ∧ t.takeover.manualChanged = true ∧
         t.takeover.reverse = s.takeover.reverse ∧ s.popCommand.keepsBut [.takeover, .streams, .screens] t ∧
         t.takeover.state = (if s.takeover.state = .normal then .switchingIn
           else if s.takeover.state = .switchingIn then .switchingIn else .showing)) ∧
     let claimed := { s.takeover with manual := true, manualChanged := true }
     let timed (t : State) (m : TimingMode) : Prop :=
       t.screens = s.screens.set front { s.screen front with timing := m }
     (¬ above → s.takeover.manual = false → s.takeover.state = .normal →
       ∃ t : State, exec .startView s = .next (t.replied p .ok []) ∧
         t.takeover = { claimed with
           state := .switchingIn, entryTimer := .running (48 * s.takeover.settings.entryDeadline) } ∧
         t.stream camera = s.cameraOpened s.takeover.settings ∧ timed t .locked ∧
         ∀ k, k ≠ camera → t.stream k = if s.frontSource = some k then (s.stream k).afterPark else s.stream k) ∧
     (¬ above → s.takeover.manual = false → s.takeover.state = .switchingIn ∨ s.takeover.state = .showing →
       exec .startView s = .next ((s.popCommand.setTakeover claimed).replied p .ok [])) ∧
     (¬ above → s.takeover.manual = false → s.takeover.state = .linger →
       exec .startView s = .next ((s.popCommand.setTakeover { claimed with
         state := .showing, lingerTimer := .stopped }).replied p .ok [])) ∧
     (¬ above → s.takeover.manual = false → s.takeover.state = .switchingOut →
       ∃ t : State, exec .startView s = .next (t.replied p .ok []) ∧
         t.takeover = { claimed with state := .showing, exitTimer := .stopped, exitDue := false } ∧
         timed t (if (t.stream camera).state = .running then .locked else .free) ∧
         ∀ k, t.stream k = if s.frontSource = some k then (s.stream k).afterPark else s.stream k)) ∧
  (∀ (s : State) (p : ControlPacket), s.executes p 11 [] →
     let dropped := if s.takeover.manual then { s.takeover with manual := false, manualChanged := true }
       else s.takeover
     (s.takeover.reverse = true →
       exec .stopView s = .next ((s.popCommand.setTakeover dropped).replied p .reverseHeld [])) ∧
     (s.takeover.reverse = false → s.takeover.manual = true →
       ∃ t : State, exec .stopView s = .next (t.replied p .ok []) ∧
         s.claimDropped t dropped False ∧
         s.popCommand.keepsBut [.takeover, .streams, .screens] t) ∧
     (s.takeover.reverse = false → s.takeover.manual = false → s.takeover.state = .linger →
       ∃ t : State, exec .stopView s = .next (t.replied p .ok []) ∧ s.switchedOut t s.takeover ∧
         s.popCommand.keepsBut [.takeover, .streams, .screens] t) ∧
     (s.takeover.reverse = false → s.takeover.manual = false →
       s.takeover.state = .normal ∨ s.takeover.state = .switchingOut →
       exec .stopView s = .next (s.popCommand.replied p .ok []))) ∧
  ∀ (s : State) (f : CanFrame) (e : SignalEntry), f.wellFormed = true → f.remote = false →
    s.signals.map.get Target.speed.index = some e → e.extended = f.extended → e.ident = f.ident →
    e.bytesNeeded ≤ f.data.length →
    (∀ x e', x ≠ Target.speed → s.signals.map.get x.index = some e' →
      ¬ (e'.extended = f.extended ∧ e'.ident = f.ident)) →
    let v : Int := max 0 (min 3000 (e.scaled f.data))
    (s.signal .speed).state ≠ .fresh ∨ (s.signal .speed).value ≠ v →
    let shows (t : State) : Prop := exec (.receivedCanFrame f) s = .next t ∧
      t.signals = { s.signals with
        records := s.signals.records.set Target.speed.index
          (SignalRec.apply .speed e.staleTimeout (e.scaled f.data) (s.signal .speed)) } ∧
      s.keepsBut [.signals, .takeover, .streams, .screens, .interp] t
    let removed := { s.takeover with manual := false, manualChanged := true, speedRemoved := true }
    let raised (t : State) : Prop := s.interp.enabled.get Cause.takeoverChange.index = true →
      (t.interp.causes.get Cause.takeoverChange.index).isSome = true
    (s.takeover.manual = true → (s.takeover.settings.manualSpeed : Int) < v →
      s.takeover.state = .switchingIn ∨ s.takeover.state = .showing →
      (s.takeover.reverse = true → ∃ t, shows t ∧ raised t ∧ t.takeover = removed ∧ t.streams = s.streams ∧
        t.screens = s.screens) ∧
      (s.takeover.reverse = false → ∃ t, shows t ∧ raised t ∧ s.switchedOut t removed)) ∧
    (s.takeover.manual = false → s.takeover.state = .linger → (s.takeover.settings.lingerSpeed : Int) < v →
      ∃ t, shows t ∧ s.switchedOut t s.takeover ∧ t.interp = s.interp) ∧
    (s.takeover.manual = false ∨ v ≤ (s.takeover.settings.manualSpeed : Int) →
      s.takeover.state ≠ .linger ∨ v ≤ (s.takeover.settings.lingerSpeed : Int) →
      ∃ t, shows t ∧ t.takeover = s.takeover ∧ t.streams = s.streams ∧ t.screens = s.screens ∧
        t.interp = s.interp)

/-- WRITE TAKEOVER SETTINGS. Its checks in their order: the camera format and mirror, the lost image, pattern 15 as
entry chime, the entry chime, and the save. Then every number is clamped to its own range, the camera capacity
before the ready level, which is clamped to 1 to that capacity; the whole table is replaced and returned. Stream 7
is reopened exactly when a camera field differs, as an opening grants it; in SHOWING, LINGER and SWITCHING_OUT a
RUNNING stream 7 is lost by it. The coding of the fields, the mirror as a flag among them, is the model's (log 11),
and so is that the reopened record of stream 7 keeps its stall timeout (log 35). -/
def Obligations.WriteTakeoverSettings : Prop :=
  (∀ entry exit loss lt ls ms disc mir lost chime att w h f cap ready : Word,
    let ws := [entry, exit, loss, lt, ls, ms, disc, mir, lost, chime, att, w, h, f, cap, ready]
    let clamp (lo hi : Nat) (x : Word) : Nat := max lo (min hi x.toNat)
    let selectors := f.toNat ≤ 1 ∧ mir.toNat ≤ 1
    let image := lost.toNat < 128 ∨ lost.toNat = 65535
    (¬ selectors → takeoverOf ws = .error .badValue) ∧
    (selectors → ¬ image → takeoverOf ws = .error .badValue) ∧
    (selectors → image → chime.toNat = 15 → takeoverOf ws = .error .reservedItem) ∧
    (selectors → image → 15 < chime.toNat → chime.toNat ≠ 65535 → takeoverOf ws = .error .badValue) ∧
    (selectors → image → chime.toNat < 15 ∨ chime.toNat = 65535 →
      ∃ (lostImage : Option (Fin 128)) (entryChime : Option (Fin 16)),
        (∀ n, lostImage = some n ↔ n.val = lost.toNat) ∧ (∀ q, entryChime = some q ↔ q.val = chime.toNat) ∧
        takeoverOf ws = .ok
          { entryDeadline := clamp 50 2000 entry, exitDeadline := clamp 50 2000 exit
            cameraLoss := clamp 20 500 loss, lingerTime := clamp 0 300 lt, lingerSpeed := clamp 0 3000 ls
            manualSpeed := clamp 0 3000 ms, discardFrames := clamp 0 3 disc, mirror := mir.toNat == 1
            lostImage := lostImage, entryChime := entryChime, attenuation := clamp 0 32768 att
            width := clamp 16 1920 w, height := clamp 16 1080 h
            format := if f.toNat = 0 then .rgb565 else .ycbcr422
            capacity := clamp 2 32 cap, readyLevel := clamp 1 (clamp 2 32 cap) ready })) ∧
  (∀ (s : State) (p : ControlPacket) (ws : List Word) (e : Result), s.executes p 9 ws → takeoverOf ws = .error e →
    exec .writeTakeoverSettings s = .next ((s.popCommand.noteRefusal p e).replied p e [])) ∧
  ∀ (s : State) (p : ControlPacket) (ws : List Word) (t : TakeoverSettings), s.executes p 9 ws →
    takeoverOf ws = .ok t →
    (s.loader.saveStep ≠ .none →
      exec .writeTakeoverSettings s = .next ((s.popCommand.noteRefusal p .busy).replied p .busy [])) ∧
    (s.loader.saveStep = .none →
      let old := s.takeover.settings
      let same := old.width = t.width ∧ old.height = t.height ∧ old.format = t.format ∧
        old.capacity = t.capacity ∧ old.readyLevel = t.readyLevel
      let reopened := (s.popCommand.setTakeover { s.takeover with settings := t }).setStream camera (s.cameraOpened t)
      let shown := s.takeover.state = .showing ∨ s.takeover.state = .linger ∨ s.takeover.state = .switchingOut
      (same → exec .writeTakeoverSettings s = .next
        ((s.popCommand.setTakeover { s.takeover with settings := t }).replied p .ok (takeoverWords t))) ∧
      (¬ same → (s.stream camera).state ≠ .running ∨ ¬ shown →
        exec .writeTakeoverSettings s = .next (reopened.replied p .ok (takeoverWords t))) ∧
      (¬ same → (s.stream camera).state = .running → shown →
        exec .writeTakeoverSettings s = .next (((reopened.raise .cameraLost .occurrence).setScreen front
          { s.screen front with timing := .free }).replied p .ok (takeoverWords t))))

/-! ### Guide lines -/

/-- The validation of a guide table copy holds exactly when its five checks hold. -/
def Obligations.GuideValidation : Prop :=
  ∀ g : GuideTable, g.valid = true ↔
    g.setCount ≤ 17 ∧ 2 ≤ g.vertices ∧ g.vertices ≤ 12 ∧ g.band1 ≤ g.band2 ∧
      (∀ k : Fin 17, k.val < g.setCount → vertexCount (g.sets.get k) = g.vertices) ∧
      ∀ (j k : Fin 17) (a b : GuideSet), j < k → k.val < g.setCount → g.sets.get j = some a →
        g.sets.get k = some b → a.key < b.key

/-- The clamped steering, the bracket index and the weight over ascending keys, and the vertices interpolated by
them. -/
def Obligations.GuideInterpolation : Prop :=
  (∀ (sets : List GuideSet) (s : Int) (a z : GuideSet), sets.Pairwise (fun x y => x.key < y.key) →
    sets.head? = some a → sets.getLast? = some z →
    let s' := max a.key (min z.key s)
    (bracketOf sets s).1 = s' ∧
    (sets.length = 1 → (bracketOf sets s).2 = ⟨0, 0⟩) ∧
    (2 ≤ sets.length → ∃ (i w : Nat) (x y : GuideSet), (bracketOf sets s).2 = ⟨i, w⟩ ∧ i + 2 ≤ sets.length ∧
      sets[i]? = some x ∧ sets[i + 1]? = some y ∧ x.key ≤ s' ∧
      (∀ (j : Nat) (u : GuideSet), i < j → j + 2 ≤ sets.length → sets[j]? = some u → s' < u.key) ∧
      (w : Int) = ((s' - x.key) * 256).fdiv (y.key - x.key) ∧ w ≤ 256 ∧
      (w = 256 ↔ s' = z.key))) ∧
  (∀ (sets : List GuideSet) (i w : Nat) (x y : GuideSet), sets[i]? = some x → sets[i + 1]? = some y →
    let at' (a b : Int) : Int := a + ((b - a) * w + 128).fdiv 256
    let mix (a b : Vertex) : Vertex := ⟨at' a.x b.x, at' a.y b.y, (at' a.d b.d).toNat⟩
    tracksOf sets ⟨i, w⟩ = (List.zipWith mix x.left y.left, List.zipWith mix x.right y.right) ∧
    (∀ a b : Int, w = 0 → at' a b = a) ∧ (∀ a b : Int, w = 256 → at' a b = b) ∧
    ∀ a b : Int, w ≤ 256 → min a b ≤ at' a b ∧ at' a b ≤ max a b) ∧
  ∀ x : GuideSet, tracksOf [x] ⟨0, 0⟩ = (x.left, x.right)

/-- The segments of a track, their nearer distances, colour bands and cut marks; a cut segment takes no place in the
paint map. -/
def Obligations.GuideSegments : Prop :=
  (∀ vs : List Vertex, (segmentsOf vs).length = vs.length - 1 ∧
    ∀ (j : Nat) (a b : Vertex), vs[j]? = some a → vs[j + 1]? = some b → (segmentsOf vs)[j]? = some (a, b)) ∧
  (∀ (g : GuideTable) (cut : Option Nat) (a b : Vertex),
    let nearer := min a.d b.d
    let m := markOf g cut (a, b)
    (nearer < g.band1 → m.band = .c0) ∧
    (g.band1 ≤ nearer → nearer < g.band2 → m.band = .c1) ∧
    (g.band1 ≤ nearer → g.band2 ≤ nearer → m.band = .c2) ∧
    (m.cut = true ↔ ∃ d, cut = some d ∧ d ≤ nearer)) ∧
  (∀ (g : GuideTable) (n : Nearest) (d : Nat), cutDistanceOf g n = some d ↔
    g.obstacleCut = true ∧ n.fresh = true ∧ n.value < 1000 ∧ d = n.value) ∧
  ∀ (g : GuideTable) (area : PaintArea) (segs : List ((Vertex × Vertex) × SegmentMark)) (m : List PaintCell),
    paintTrack g area segs m = paintTrack g area (segs.filter fun x => !x.2.cut) m

/-- The centres of a segment, and the window pixels that a centre's square paints. -/
def Obligations.GuideRasterization : Prop :=
  (∀ a b : Vertex,
    let dx := b.x - a.x
    let dy := b.y - a.y
    let steps := max dx.natAbs dy.natAbs
    (steps = 0 → centresOf (a, b) = [(a.x, a.y)]) ∧
    (0 < steps → (centresOf (a, b)).length = steps + 1 ∧
      ∀ k : Nat, k ≤ steps → (centresOf (a, b))[k]? =
        some (a.x + (2 * dx * k + steps).fdiv (2 * steps), a.y + (2 * dy * k + steps).fdiv (2 * steps)))) ∧
  ∀ (area : PaintArea) (w : Nat) (cx cy : Int) (row col : Nat), 1 ≤ w →
    ((row, col) ∈ squareOf area w (cx, cy) ↔
      cx - ((w - 1) / 2 : Nat) ≤ col ∧ (col : Int) ≤ cx + ((w - 1 + 1) / 2 : Nat) ∧
      cy - ((w - 1) / 2 : Nat) ≤ row ∧ (row : Int) ≤ cy + ((w - 1 + 1) / 2 : Nat) ∧
      col < area.width ∧ row < area.height ∧
      area.originX + col < area.screenWidth ∧ area.originY + row < area.screenHeight)

/-- The guide computation of a FRONT frame start: nothing but an empty paint map outside a guide frame; with STEER
FRESH or by the stale action the steering and its source, the last steering used and the result record. The paint map
of a guide frame: each pixel holds the colour of the last drawn segment that painted it, the left track's segments
before the right track's, or nothing; and a line demand of FRONT with presentation PICTURE reads it there. A FRONT
frame start, FREE or LOCKED: a released GUIDE item is applied when the shadow copy is valid and otherwise dropped,
with COMMAND_REFUSED for its notify tag, and its outcome record written; the frame is a guide frame exactly when the
takeover state is not NORMAL after the controller's action, stream 7 is RUNNING, guide enable is on and a set is in
use. The order of the owners within a frame start (log 17) and the frame period counted in sample periods (log 2) are
the model's. -/
def Obligations.GuideFrameResult : Prop :=
  (∀ (u : GuideUnit) (frame : Byte) (steer : SignalRec) (n : Nearest) (area : PaintArea),
    u.frame false frame steer n area = { u with paint := [] } ∧
    (steer.state ≠ .fresh → u.active.staleAction = .hide →
      u.frame true frame steer n area = { u with paint := [], result := some (GuideResult.hidden frame) }) ∧
    ∀ (source : GuideSource) (s : Int),
      (steer.state = .fresh ∧ source = .fresh ∧ s = steer.value ∨
        steer.state ≠ .fresh ∧ u.active.staleAction = .straight ∧ source = .straight ∧ s = 0 ∨
        steer.state ≠ .fresh ∧ u.active.staleAction = .hold ∧ u.lastSteering = some s ∧ source = .hold ∨
        steer.state ≠ .fresh ∧ u.active.staleAction = .hold ∧ u.lastSteering = none ∧ source = .straight ∧ s = 0) →
      let b := bracketOf u.active.keyed s
      let tracks := tracksOf u.active.keyed b.2
      let marks (vs : List Vertex) := (segmentsOf vs).map (markOf u.active (cutDistanceOf u.active n))
      let drawn (vs : List Vertex) := ((marks vs).filter fun m => !m.cut).length
      (u.frame true frame steer n area).lastSteering = some s ∧
      (u.frame true frame steer n area).active = u.active ∧
      (u.frame true frame steer n area).shadow = u.shadow ∧
      (u.frame true frame steer n area).result = some
        { frame := frame, source := source, steering := some s, clamped := some b.1, bracket := some b.2
          cutDistance := cutDistanceOf u.active n, leftVertices := tracks.1, rightVertices := tracks.2
          leftSegments := marks tracks.1, rightSegments := marks tracks.2
          leftDrawn := drawn tracks.1, rightDrawn := drawn tracks.2 } ∧
      let color (m : SegmentMark) : RGBA := match m.band with
        | .c0 => u.active.color0
        | .c1 => u.active.color1
        | .c2 => u.active.color2
      let painted (vs : List Vertex) : List ((Nat × Nat) × RGBA) :=
        ((segmentsOf vs).zip (marks vs)).flatMap fun x => if x.2.cut then [] else
          (centresOf x.1).flatMap fun c => (squareOf area u.active.lineWidth c).map fun px => (px, color x.2)
      ∀ row col : Nat, paintAt (u.frame true frame steer n area).paint row col =
        (((painted tracks.1 ++ painted tracks.2).filter fun x => x.1 == (row, col)).getLast?).map Prod.snd) ∧
  (∀ (s : State) (k : ScreenId) (f : FrameRec) (row col : Nat),
    (k ≠ front ∨ f.presentation ≠ some .picture → s.guidePixel k f row col = none) ∧
    ∀ w, f.presentation = some .picture → f.window = some w → w.top ≤ row → w.left ≤ col →
      s.guidePixel front f row col = paintAt s.guide.paint (row - w.top) (col - w.left)) ∧
  ∀ (s : State) (i : Instr), s.startsFrame front i →
    let number := (s.screen front).counter + 1
    let u := if (s.released .guide).isSome ∧ s.guide.shadow.valid = true then { s.guide with active := s.guide.shadow }
      else s.guide
    ∃ t : State, exec i s = .next t ∧
      (let a := (t.screen front).active
       let r := t.stream camera
       let drawn := t.takeover.state ≠ .normal ∧ r.state = .running ∧ a.guideEnable = true ∧ 1 ≤ u.active.setCount
       (drawn → t.guide = u.frame true number (s.signal .steer) s.signals.nearest
         ⟨r.width, r.height, a.cameraX, a.cameraY, a.width, a.height⟩) ∧
       (¬ drawn → t.guide = { u with paint := [] })) ∧
      (s.released .guide = none → t.item .guide = s.item .guide ∧
        t.tables.outcomes.get Group.guide.index = s.tables.outcomes.get Group.guide.index) ∧
      (s.loader.saveStep ≠ .none → s.released .guide = none) ∧
      ∀ x, s.loader.saveStep = .none → s.item .guide = some x → s.released .guide = some x ∧ t.item .guide = none ∧
        t.tables.outcomes.get Group.guide.index =
          ⟨if s.guide.shadow.valid then .applied else .droppedInvalid, some x.lastTag, some ⟨front, number⟩⟩ ∧
        ∀ tag, s.guide.shadow.valid = false → x.notifyTag = some tag →
          s.interp.enabled.get Cause.commandRefused.index = true →
          (s.interp.causes.get Cause.commandRefused.index = none ∨
            ∃ y m, s.interp.causes.get Cause.commandRefused.index = some (.refused y m)) →
          ∃ m, t.interp.causes.get Cause.commandRefused.index = some (.refused tag m)

/-- The guide writes: the eight general fields, each checked against its values, and one set with its key and
tracks, go to the shadow copy alone. The checks of WRITE GUIDE SET in their order: the set number and the vertex
count, BAD_VALUE; the length of the two tracks, BAD_LENGTH; the ranges of the key and of every vertex, BAD_VALUE.
The coding of the fields is the model's, the obstacle cut as a flag among them (logs 10, 11). A flag or choice
outside its coding is refused with BAD_VALUE by the model's choice (log 12). -/
def Obligations.GuideShadowWrites : Prop :=
  (∀ (old : GuideTable) (n m b1 b2 r0 g0 l0 a0 r1 g1 l1 a1 r2 g2 l2 a2 w st cut : Word),
    let ws := [n, m, b1, b2, r0, g0, l0, a0, r1, g1, l1, a1, r2, g2, l2, a2, w, st, cut]
    let good := n.toNat ≤ 17 ∧ 2 ≤ m.toNat ∧ m.toNat ≤ 12 ∧ b1.toNat ≤ 1000 ∧ b2.toNat ≤ 1000 ∧
      (∀ x ∈ [r0, g0, l0, a0, r1, g1, l1, a1, r2, g2, l2, a2], x.toNat ≤ 255) ∧ 1 ≤ w.toNat ∧ w.toNat ≤ 8 ∧
      st.toNat ≤ 2 ∧ cut.toNat ≤ 1
    let color (r g b a : Word) : RGBA := ⟨r.setWidth 8, g.setWidth 8, b.setWidth 8, a.setWidth 8⟩
    (¬ good → guideGeneralOf old ws = none) ∧
    (good → guideGeneralOf old ws = some { old with
      setCount := n.toNat, vertices := m.toNat, band1 := b1.toNat, band2 := b2.toNat
      color0 := color r0 g0 l0 a0, color1 := color r1 g1 l1 a1, color2 := color r2 g2 l2 a2
      lineWidth := w.toNat
      staleAction := if st.toNat = 0 then .hide else if st.toNat = 1 then .straight else .hold
      obstacleCut := cut.toNat == 1 })) ∧
  ∀ (s : State) (p : ControlPacket),
    (∀ (ws : List Word) (g : GuideTable), s.executes p 13 ws → ws.length = 19 →
      guideGeneralOf s.guide.shadow ws = some g →
      exec .writeGuideSettings s = .next ((s.popCommand.setGuide { s.guide with shadow := g }).replied p .ok []) ∧
      g.sets = s.guide.shadow.sets) ∧
    (∀ ws : List Word, s.executes p 13 ws → ws.length = 19 → guideGeneralOf s.guide.shadow ws = none →
      exec .writeGuideSettings s = .next ((s.popCommand.noteRefusal p .badValue).replied p .badValue [])) ∧
    (∀ g : GuideSet, g.valid = true ↔ -7800 ≤ g.key ∧ g.key ≤ 7800 ∧
      ∀ v ∈ g.left ++ g.right, -2048 ≤ v.x ∧ v.x ≤ 2047 ∧ -2048 ≤ v.y ∧ v.y ≤ 2047 ∧ v.d ≤ 1000) ∧
    (∀ (nr : Word) (k : Fin 17) (g : GuideSet), nr.toNat = k.val → 2 ≤ g.left.length → g.left.length ≤ 12 →
      g.right.length = g.left.length → g.valid = true →
      s.executes p 14 (nr :: guideSetWords g) →
      exec .writeGuideSet s = .next ((s.popCommand.setGuide { s.guide with
        shadow := { s.guide.shadow with sets := s.guide.shadow.sets.set k (some g) } }).replied p .ok [])) ∧
    ∀ (nr key n : Word) (lists : List Word), s.executes p 14 (nr :: key :: n :: lists) →
      let refused (e : Result) := exec .writeGuideSet s = .next ((s.popCommand.noteRefusal p e).replied p e [])
      let counted := nr.toNat < 17 ∧ 2 ≤ n.toNat ∧ n.toNat ≤ 12
      let field (i : Nat) : Word := lists.getD i 0
      let inside (i : Nat) : Prop := -2048 ≤ (field i).toInt ∧ (field i).toInt ≤ 2047
      (¬ counted → refused .badValue) ∧
      (counted → lists.length ≠ 6 * n.toNat → refused .badLength) ∧
      (counted → lists.length = 6 * n.toNat →
        (key.toInt < -7800 ∨ 7800 < key.toInt ∨ ∃ v, v < 2 * n.toNat ∧
          ¬ (inside (3 * v) ∧ inside (3 * v + 1) ∧ (field (3 * v + 2)).toNat ≤ 1000)) →
        refused .badValue)

/-! ### Overlays -/

/-- DEFINE IMAGE: its checks of state, and the taking of the lowest free pages, every byte of which reads 0; every
other byte of the store reads as before. FREE IMAGE: its checks in order, and the image's pages merged into the free
list. The pages a definition can take are the free pages and the image's own, in ascending order; an image is in use
while a USED shadow entry, a screen's active list, or the lost image setting with the image DEFINED names it. -/
def Obligations.DefineAndFreeImage : Prop :=
  (∀ (u : OverlayUnit) (n : Fin 128),
     let own := match u.images.get n with
       | some d => d.pages
       | none => []
     (u.available n).Perm (u.freePages ++ own) ∧
     (∀ s : State, s.overlay = u → pageLaw s → (u.available n).Pairwise (· < ·))) ∧
  (∀ (s : State) (n : Fin 128), s.imageInUse n = true ↔
     (∃ e f, s.overlay.objects.get e = some f ∧ f.image = n) ∨
     (∃ k c, c ∈ (s.overlay.screens.get k).list ∧ c.fields.image = n) ∨
     (s.takeover.settings.lostImage = some n ∧ (s.overlay.images.get n).isSome = true)) ∧
  (∀ (w h f pl : Word),
     let good := 1 ≤ w.toNat ∧ w.toNat ≤ 1920 ∧ 1 ≤ h.toNat ∧ h.toNat ≤ 1080 ∧ f.toNat ≤ 1 ∧ pl.toNat ≤ 3
     (¬ good → imageShapeOf w h f pl = none) ∧
     (good → ∃ k : Fin 4, k.val = pl.toNat ∧
       imageShapeOf w h f pl = some ⟨w.toNat, h.toNat, if f.toNat = 0 then .index8 else .index4, k⟩)) ∧
  (∀ (s : State) (p : ControlPacket) (nr w h f pl : Word), s.executes p 16 [nr, w, h, f, pl] →
     127 < nr.toNat ∨ imageShapeOf w h f pl = none →
     exec .defineImage s = .next ((s.popCommand.noteRefusal p .badValue).replied p .badValue [])) ∧
  (∀ (s : State) (p : ControlPacket) (nr w h f pl : Word) (n : Fin 128) (x : ImageShape),
     s.executes p 16 [nr, w, h, f, pl] → nr.toNat = n.val → imageShapeOf w h f pl = some x →
     let refused (e : Result) := exec .defineImage s = .next ((s.popCommand.noteRefusal p e).replied p e [])
     let held := s.loader.saveStep ≠ .none ∧ 120 ≤ n.val
     let blocked := s.overlay.defined n = true ∧ s.imageInUse n = true
     let size := if x.format = .index8 then x.width * x.height else (x.width * x.height + 1) / 2
     let need := (size + 511) / 512
     let free := s.overlay.available n
     (held → refused .busy) ∧
     (¬ held → blocked → refused .inUse) ∧
     (¬ held → ¬ blocked → free.length < need → refused .noRoom) ∧
     (¬ held → ¬ blocked → need ≤ free.length →
       ∃ u : OverlayUnit, exec .defineImage s = .next ((s.popCommand.setOverlay u).replied p .ok
           [BitVec.ofNat 16 need, BitVec.ofNat 16 (free.length - need)]) ∧
         u.images = s.overlay.images.set n (some ⟨x.width, x.height, x.format, x.palette, free.take need⟩) ∧
         u.freePages = free.drop need ∧ u.shadowPalettes = s.overlay.shadowPalettes ∧
         u.objects = s.overlay.objects ∧ u.screens = s.overlay.screens ∧
         (Memory.wf storeDefault storeSize s.overlay.store = true → ∀ a,
           u.store.read storeDefault a =
             if ∃ q ∈ free.take need, q.val * 512 ≤ a ∧ a < q.val * 512 + 512 then 0
             else s.overlay.store.read storeDefault a))) ∧
  (∀ (s : State) (p : ControlPacket) (nr : Word), s.executes p 18 [nr] →
     let refused (e : Result) := exec .freeImage s = .next ((s.popCommand.noteRefusal p e).replied p e [])
     (127 < nr.toNat → refused .badValue) ∧
     ∀ n : Fin 128, n.val = nr.toNat →
       let held := s.loader.saveStep ≠ .none ∧ 120 ≤ n.val
       (held → refused .busy) ∧
       (¬ held → s.overlay.images.get n = none → refused .notDefined) ∧
       (¬ held → ∀ d, s.overlay.images.get n = some d →
         (s.imageInUse n = true → refused .inUse) ∧
         (s.imageInUse n = false →
           let free := mergePages s.overlay.freePages d.pages
           exec .freeImage s = .next ((s.popCommand.setOverlay { s.overlay with
             freePages := free, images := s.overlay.images.set n none }).replied p .ok
               [BitVec.ofNat 16 free.length]) ∧
           (pageLaw s → free.Perm (s.overlay.freePages ++ d.pages) ∧ free.Pairwise (· < ·)))))

/-- IMAGE DATA: the bytes are written at the offset and read back there; every other byte of the image and of the
store, and every other part of the state, is unchanged. Its checks in their order: the image number, the count, a
save in flight for the images 120 to 127, a DEFINED image, the bytes inside the image, and an image not in use. That
the pad byte after an odd count may hold anything is the model's choice (log 32). -/
def Obligations.ImageDataWrite : Prop :=
  (∀ (s : State) (p : ControlPacket) (nr hi lo cnt : Word) (packed : List Word),
    s.executes p 17 (nr :: hi :: lo :: cnt :: packed) →
    let refused (e : Result) := exec .imageData s = .next ((s.popCommand.noteRefusal p e).replied p e [])
    let counted := 1 ≤ cnt.toNat ∧ cnt.toNat ≤ 2048 ∧ packed.length = (cnt.toNat + 1) / 2
    (127 < nr.toNat → refused .badValue) ∧
    ∀ n : Fin 128, nr.toNat = n.val →
      let held := s.loader.saveStep ≠ .none ∧ 120 ≤ n.val
      (¬ counted → refused .badLength) ∧ (counted → held → refused .busy) ∧
      (counted → ¬ held → s.overlay.images.get n = none → refused .notDefined) ∧
      ∀ d, counted → ¬ held → s.overlay.images.get n = some d →
        (d.size < hi.toNat * 65536 + lo.toNat + cnt.toNat → refused .badLength) ∧
        (hi.toNat * 65536 + lo.toNat + cnt.toNat ≤ d.size → s.imageInUse n = true → refused .inUse)) ∧
  ∀ (s : State) (p : ControlPacket) (nr hi lo cnt : Word) (packed : List Word) (n : Fin 128) (d : ImageDesc),
    memoryLaw s → pageLaw s →
    s.executes p 17 (nr :: hi :: lo :: cnt :: packed) → nr.toNat = n.val →
    1 ≤ cnt.toNat → cnt.toNat ≤ 2048 → packed.length = (cnt.toNat + 1) / 2 →
    ¬ (s.loader.saveStep ≠ .none ∧ 120 ≤ n.val) → s.overlay.images.get n = some d →
    let offset := hi.toNat * 65536 + lo.toNat
    offset + cnt.toNat ≤ d.size → s.imageInUse n = false →
    ∃ store, exec .imageData s = .next
        ((s.popCommand.setOverlay { s.overlay with store := store }).replied p .ok []) ∧
      (∀ b, b < cnt.toNat →
        some (Memory.read storeDefault store (d.addr (offset + b))) = (bytesOfWords packed)[b]?) ∧
      (∀ b, b < d.size → b < offset ∨ offset + cnt.toNat ≤ b →
        Memory.read storeDefault store (d.addr b) = s.overlay.store.read storeDefault (d.addr b)) ∧
      ∀ a, (∀ b, b < cnt.toNat → d.addr (offset + b) ≠ a) →
        Memory.read storeDefault store a = s.overlay.store.read storeDefault a

/-- The writes of palettes and objects: the named entries of the shadow copy are replaced, an object entry becomes
USED, with or without a clip rectangle and a blink, or FREE, and nothing else changes. Their checks in order. WRITE
PALETTE: the palette, the first entry and the count, BAD_VALUE; the number of entries, BAD_LENGTH; the components,
BAD_VALUE. WRITE OBJECT: a length other than that of the parts announced, also without the second presence field,
BAD_LENGTH; the entry and every field by its range, BAD_VALUE; an image that is not DEFINED. CLEAR OBJECT: the entry.
A palette component above 255 and a presence or flag field other than 0 and 1 are refused with BAD_VALUE by the
model's choice (log 12). A frame start of a screen: with a PALETTES item released for it, the shadow palettes become
its active ones; with an OBJECTS item released for it, its active list becomes the USED shadow entries of the screen
in rising order with their blink counters at 0, and otherwise every blink counter advances by 1 and returns to 0 at
the end of its phases; the screen leaves the item, whose outcome record is written as APPLIED once no screen is left.
The frame period counted in sample periods is the model's choice (log 2). -/
def Obligations.OverlayShadowWrites : Prop :=
  (∀ (s : State) (k : ScreenId) (i : Instr), s.startsFrame k i →
    let number := (s.screen k).counter + 1
    let sc := s.overlay.screens.get k
    let due (g : Group) : Prop := ¬ (s.loader.saveStep ≠ .none ∧ g = .palettes) ∧
      ∃ x set, s.item g = some x ∧ x.screens = some set ∧ set.get k = true
    let rebuilt := (List.finRange 96).filterMap fun e => match s.overlay.objects.get e with
      | some f => if f.screen = k then some (⟨e, f, f.blink.map fun _ => 0⟩ : ActiveCopy) else none
      | none => none
    let advanced := sc.list.map fun c => match c.counter, c.fields.blink with
      | some n, some b => { c with counter := some (if n + 1 = b.on + b.off then 0 else n + 1) }
      | _, _ => c
    ∃ t : State, exec i s = .next t ∧
      (∀ palettes list, (due .palettes → palettes = s.overlay.shadowPalettes) →
        (¬ due .palettes → palettes = sc.palettes) → (due .objects → list = rebuilt) →
        (¬ due .objects → list = advanced) →
        t.overlay = { s.overlay with
          screens := s.overlay.screens.set k { sc with palettes := palettes, list := list, raised := false } }) ∧
      ∀ g, g = .palettes ∨ g = .objects →
        (¬ due g → t.item g = s.item g ∧ t.tables.outcomes.get g.index = s.tables.outcomes.get g.index) ∧
        ∀ x set, due g → s.item g = some x → x.screens = some set →
          ((∀ j, j ≠ k → set.get j = false) → t.item g = none ∧
            t.tables.outcomes.get g.index = ⟨.applied, some x.lastTag, some ⟨k, number⟩⟩) ∧
          ((∃ j, j ≠ k ∧ set.get j = true) → t.item g = some { x with screens := some (set.set k false) } ∧
            t.tables.outcomes.get g.index = s.tables.outcomes.get g.index)) ∧
  ∀ (s : State) (p : ControlPacket),
    (∀ (nr first cnt : Word) (k : Fin 4) (es : List RGBA), nr.toNat = k.val → 1 ≤ cnt.toNat →
      first.toNat + cnt.toNat ≤ 256 → es.length = cnt.toNat →
      s.executes p 20 (nr :: first :: cnt :: es.flatMap rgbaWords) →
      ∃ t, exec .writePalette s = .next ((s.popCommand.setOverlay { s.overlay with
          shadowPalettes := s.overlay.shadowPalettes.set k t }).replied p .ok []) ∧
        ∀ i : Fin 256, t.get i =
          if first.toNat ≤ i.val ∧ i.val < first.toNat + cnt.toNat then
            es.getD (i.val - first.toNat) ((s.overlay.shadowPalettes.get k).get i)
          else (s.overlay.shadowPalettes.get k).get i) ∧
    (∀ (nr first cnt : Word) (entries : List Word), s.executes p 20 (nr :: first :: cnt :: entries) →
      let refused (e : Result) := exec .writePalette s = .next ((s.popCommand.noteRefusal p e).replied p e [])
      let ranged := nr.toNat ≤ 3 ∧ 1 ≤ cnt.toNat ∧ first.toNat + cnt.toNat ≤ 256
      (¬ ranged → refused .badValue) ∧
      (ranged → entries.length ≠ 4 * cnt.toNat → refused .badLength) ∧
      (ranged → entries.length = 4 * cnt.toNat → (∃ x ∈ entries, 255 < x.toNat) → refused .badValue)) ∧
    (∀ (sc pl im x y dep al vis keep : Word) (clip blink : Option (List Word)),
      (∀ ws, clip = some ws → ws.length = 4) → (∀ ws, blink = some ws → ws.length = 2) →
      let fields := [sc, pl, im, x, y, dep, al, vis, keep]
      let good := sc.toNat ≤ 2 ∧ pl.toNat ≤ 1 ∧ im.toNat ≤ 127 ∧ -1920 ≤ x.toInt ∧ x.toInt ≤ 1919 ∧
        -1080 ≤ y.toInt ∧ y.toInt ≤ 1079 ∧ dep.toNat ≤ 15 ∧ al.toNat ≤ 255 ∧ vis.toNat ≤ 1 ∧ keep.toNat ≤ 1 ∧
        (∀ x0 y0 x1 y1, clip = some [x0, y0, x1, y1] → x0.toNat ≤ x1.toNat ∧ x1.toNat ≤ 1919 ∧
          y0.toNat ≤ y1.toNat ∧ y1.toNat ≤ 1079) ∧
        ∀ on off, blink = some [on, off] → 1 ≤ on.toNat ∧ on.toNat ≤ 255 ∧ 1 ≤ off.toNat ∧ off.toNat ≤ 255
      (¬ good → objectOf fields clip blink = none) ∧
      (good → ∃ o, objectOf fields clip blink = some o ∧ o.screen.val = sc.toNat ∧
        o.plane = (if pl.toNat = 0 then .menu else .notice) ∧ o.image.val = im.toNat ∧ o.x = x.toInt ∧
        o.y = y.toInt ∧ o.depth = dep.toNat ∧ o.alpha = al.toNat ∧ o.visible = (vis.toNat == 1) ∧
        o.keep = (keep.toNat == 1) ∧ (clip = none → o.clip = none) ∧ (blink = none → o.blink = none) ∧
        (∀ x0 y0 x1 y1, clip = some [x0, y0, x1, y1] →
          o.clip = some ⟨x0.toNat, y0.toNat, x1.toNat, y1.toNat⟩) ∧
        ∀ on off, blink = some [on, off] → o.blink = some ⟨on.toNat, off.toNat⟩)) ∧
    (∀ (nr : Word) (fixed : List Word) (clip blink : Option (List Word)), fixed.length = 9 →
      (∀ ws, clip = some ws → ws.length = 4) → (∀ ws, blink = some ws → ws.length = 2) →
      let refused (e : Result) := exec .writeObject s = .next ((s.popCommand.noteRefusal p e).replied p e [])
      let part (o : Option (List Word)) : List Word := match o with
        | some ws => 1#16 :: ws
        | none => [0#16]
      let form := nr :: fixed ++ part clip ++ part blink
      (∀ extra, extra ≠ [] → s.executes p 21 (form ++ extra) → refused .badLength) ∧
      (s.executes p 21 (nr :: fixed ++ part clip) → refused .badLength) ∧
      (∀ rest, rest.length < 4 → s.executes p 21 (nr :: fixed ++ 1#16 :: rest) → refused .badLength) ∧
      (∀ rest, rest.length < 2 → s.executes p 21 (nr :: fixed ++ part clip ++ 1#16 :: rest) → refused .badLength) ∧
      (∀ (w : Word) (rest : List Word), 1 < w.toNat →
        s.executes p 21 (nr :: fixed ++ w :: rest) ∨ s.executes p 21 (nr :: fixed ++ part clip ++ w :: rest) →
        refused .badValue) ∧
      (s.executes p 21 form →
        (95 < nr.toNat ∨ objectOf fixed clip blink = none → refused .badValue) ∧
        ∀ (e : Fin 96) (o : ObjectFields), nr.toNat = e.val → objectOf fixed clip blink = some o →
          (s.overlay.defined o.image = true →
            exec .writeObject s = .next ((s.popCommand.setOverlay { s.overlay with
              objects := s.overlay.objects.set e (some o) }).replied p .ok [])) ∧
          (s.overlay.defined o.image = false → refused .notDefined))) ∧
    (∀ nr : Word, s.executes p 22 [nr] →
      (95 < nr.toNat →
        exec .clearObject s = .next ((s.popCommand.noteRefusal p .badValue).replied p .badValue [])) ∧
      ∀ e : Fin 96, nr.toNat = e.val →
        exec .clearObject s = .next ((s.popCommand.setOverlay { s.overlay with
          objects := s.overlay.objects.set e none }).replied p .ok []))

/-- The span list of a row: the candidates bottom first, of which the topmost eight stand. A copy is a candidate
when it is visible, has no blink or is in its on-phase, is not suppressed, covers the row by its place and its
image's height, and has no clip rectangle or one that holds the row; a candidate lies below another when it is MENU
under NOTICE, in one plane of lower depth, at one depth of higher entry number. The pixel a copy draws: the colour
of its image's pixel in the screen's active palette, with both alphas combined. -/
def Obligations.SpanListTopmostEight : Prop :=
  (∀ (u : OverlayUnit) (k : ScreenId) (takeover : Bool) (row : Nat) (c : ActiveCopy),
    u.candidate k takeover row c = true ↔ c.fields.visible = true ∧
      (∀ n b, c.counter = some n → c.fields.blink = some b → n < b.on) ∧
      ¬ (k = front ∧ takeover = true ∧ c.fields.plane = .menu ∧ c.fields.keep = false) ∧
      (∃ d, u.images.get c.fields.image = some d ∧ c.fields.y ≤ row ∧ (row : Int) < c.fields.y + d.height) ∧
      ∀ r, c.fields.clip = some r → r.y0 ≤ row ∧ row ≤ r.y1) ∧
  (∀ a b : ActiveCopy, spanBelow a b = true ↔
    (a.fields.plane = .menu ∧ b.fields.plane = .notice) ∨
    (a.fields.plane = b.fields.plane ∧ a.fields.depth < b.fields.depth) ∨
    (a.fields.plane = b.fields.plane ∧ a.fields.depth = b.fields.depth ∧ b.entry < a.entry)) ∧
  (∀ (u : OverlayUnit) (k : ScreenId) (row col : Nat) (c : ActiveCopy) (d : ImageDesc),
    u.images.get c.fields.image = some d →
    let clipped := ∃ r, c.fields.clip = some r ∧ (col < r.x0 ∨ r.x1 < col)
    ((col : Int) < c.fields.x ∨ c.fields.x + d.width ≤ col ∨ clipped → u.objectPixel k row col c = none) ∧
    ∀ x y : Nat, (col : Int) = c.fields.x + x → (row : Int) = c.fields.y + y → x < d.width → ¬ clipped →
      let p := y * d.width + x
      let byte (b : Nat) : Byte := u.store.read storeDefault (d.addr b)
      ∀ i : Fin 256, i.val = (match d.format with
          | .index8 => (byte p).toNat
          | .index4 => if p % 2 = 0 then (byte (p / 2)).toNat / 16 else (byte (p / 2)).toNat % 16) →
        let e := ((u.screens.get k).palettes.get d.palette).get i
        u.objectPixel k row col c =
          some ⟨e.r, e.g, e.b, BitVec.ofNat 8 ((c.fields.alpha * e.a.toNat + 127) / 255)⟩) ∧
  ∀ (u : OverlayUnit) (k : ScreenId) (takeover : Bool) (row : Nat),
    let cs := u.candidates k takeover row
    cs.Perm ((u.screens.get k).list.filter (u.candidate k takeover row)) ∧
    cs.Pairwise (fun a b => spanBelow b a = false) ∧
    (spanList cs).length = min 8 cs.length ∧ ∃ below, cs = below ++ spanList cs

/-! ### Sound -/

/-- OPEN SOUND and CLOSE SOUND: the checks in order, and the effects on the FIFO. -/
def Obligations.OpenAndCloseSound : Prop :=
  ∀ (s : State) (p : ControlPacket),
    (∀ nr st hi lo : Word, s.executes p 24 [nr, st, hi, lo] →
      let refused (e : Result) := exec .openSound s = .next ((s.popCommand.noteRefusal p e).replied p e [])
      let good := 1 ≤ st.toNat ∧ st.toNat ≤ 1024 ∧ 1 ≤ hi.toNat ∧ hi.toNat ≤ 1024 ∧ lo.toNat ≤ 1023 ∧
        lo.toNat < hi.toNat ∧ st.toNat ≤ hi.toNat
      (3 < nr.toNat → refused .badValue) ∧ (¬ good → refused .badValue) ∧
      (∀ k : Fin 4, k.val = nr.toNat → good →
        ((s.fifo k).state ≠ .closed → refused .inUse) ∧
        ((s.fifo k).state = .closed →
          exec .openSound s = .next ((s.popCommand.setSound { s.sound with
            fifos := s.sound.fifos.set k
              { state := .priming, frames := [], startLevel := st.toNat, highMark := hi.toNat,
                lowMark := lo.toNat, paused := false, overruns := 0, underruns := 0,
                strays := 0 } }).replied p .ok [])))) ∧
    (∀ nr : Word, s.executes p 25 [nr] →
      (3 < nr.toNat →
        exec .closeSound s = .next ((s.popCommand.noteRefusal p .badValue).replied p .badValue [])) ∧
      ∀ k : Fin 4, k.val = nr.toNat →
        ((s.fifo k).state = .closed → exec .closeSound s = .next (s.popCommand.replied p .ok [])) ∧
        ((s.fifo k).state ≠ .closed → exec .closeSound s = .next ((s.popCommand.setSound { s.sound with
          fifos := s.sound.fifos.set k { s.fifo k with state := .closed, frames := [], paused := false } }).replied
            p .ok [])))

/-- A SOUND packet: counted as a stray on a CLOSED stream; otherwise appended as far as it fits, with an overrun
counted and SOUND_FAULT raised for what is left over, the start level reached, and PAUSE made once at the high mark,
in the event of an overrun too. A SOUND frame carries the sound stream, the frame count, and the frames with the
left sample first. -/
def Obligations.SoundPacketIntake : Prop :=
  (∀ (frame : List Byte) (p : SoundPacket),
    soundOf frame = some p ↔ 1 ≤ p.frames.length ∧ p.frames.length ≤ 512 ∧
      frame = frameOf 2#8 ([BitVec.ofNat 8 p.stream.val, BitVec.ofNat 8 (p.frames.length / 256),
        BitVec.ofNat 8 p.frames.length] ++ bytesOfWords (p.frames.flatMap fun f => [f.left, f.right]))) ∧
  ∀ (s : State) (frame : List Byte) (p : SoundPacket), soundOf frame = some p → s.hears .cabin →
    let f := s.fifo p.stream
    let base := s.received .cabin
    let put (t : State) (g : Fifo) := t.setSound { s.sound with fifos := s.sound.fifos.set p.stream g }
    let frames := f.frames ++ p.frames.take (1024 - f.frames.length)
    let run : FifoState := if f.state = .priming ∧ f.startLevel ≤ frames.length then .running else f.state
    (f.state = .closed →
      exec (.soundPacket frame) s = .next (put base { f with strays := min (f.strays + 1) 65535 })) ∧
    (f.state ≠ .closed → p.frames.length ≤ 1024 - f.frames.length →
      (f.paused = true ∨ frames.length < f.highMark →
        exec (.soundPacket frame) s = .next (put base { f with frames := frames, state := run })) ∧
      (f.paused = false → f.highMark ≤ frames.length →
        exec (.soundPacket frame) s = .next
          ((put base { f with frames := frames, state := run, paused := true }).handMarker
            (.flowMarker p.stream .pause)))) ∧
    (f.state ≠ .closed → 1024 - f.frames.length < p.frames.length →
      let faulted := base.raise .soundFault (.member (p.stream.castLE (Nat.le_of_ble_eq_true rfl)))
      let full := { f with frames := frames, state := run, overruns := min (f.overruns + 1) 65535 }
      (f.paused = true ∨ frames.length < f.highMark →
        exec (.soundPacket frame) s = .next (put faulted full)) ∧
      (f.paused = false → f.highMark ≤ frames.length →
        exec (.soundPacket frame) s = .next ((put faulted { full with paused := true }).handMarker
          (.flowMarker p.stream .pause))))

/-- A sample instant: each output sample is the rounded weighted sum of the ten inputs, saturated; a saturated one
sets its clip flag and raises CLIP, with the output as a member, when the flag was clear; each FIFO gives its head
frame, or silence; a FIFO that is paused and falls to its low mark or below is unpaused, and its RESUME joins the
back channel, those of one instant in rising stream order (the model's choice, log 36), discarded without lock or
room; both voices are advanced. Of the streams, the screens, the signals and the takeover only the timers that run
change: that they run by one sample period at a sample instant is the model's choice (log 2). -/
def Obligations.SampleInstantOutput : Prop :=
  ∀ s : State, ∃ t : State, exec .sampleInstant s = .next t ∧
    (let given (k : Fin 4) : StereoFrame :=
       if (s.fifo k).state = .running then (s.fifo k).frames.headD ⟨0, 0⟩ else ⟨0, 0⟩
     let x (i : Fin 10) : Int := match i with
       | 0 => (given 0).left.toInt
       | 1 => (given 0).right.toInt
       | 2 => (given 1).left.toInt
       | 3 => (given 1).right.toInt
       | 4 => (given 2).left.toInt
       | 5 => (given 2).right.toInt
       | 6 => (given 3).left.toInt
       | 7 => (given 3).right.toInt
       | 8 => s.chimes.sample 0
       | 9 => s.chimes.sample 1
     let acc (o : Fin 8) : Int := ((List.finRange 10).map fun i => x i * ((s.sound.current.get i).get o : Int)).sum
     let y (o : Fin 8) : Int := (acc o + 16384).fdiv 32768
     (∀ o, t.ports.tdm.get o = BitVec.ofInt 16 (max (-32768) (min 32767 (y o)))) ∧
     (∀ o, t.sound.clip.get o = (s.sound.clip.get o || decide (y o < -32768 ∨ 32767 < y o))) ∧
     (s.interp.enabled.get Cause.clip.index = true →
       (∃ o, (y o < -32768 ∨ 32767 < y o) ∧ s.sound.clip.get o = false) →
       (t.interp.causes.get Cause.clip.index).isSome = true) ∧
     (let old := s.interp.causes.get Cause.clip.index
      let clips (o : Fin 8) : Prop := (y o < -32768 ∨ 32767 < y o) ∧ s.sound.clip.get o = false
      s.interp.enabled.get Cause.clip.index = true → (∃ o, clips o) →
      (old = none ∨ (∃ m, old = some (.members m)) →
        ∃ m, t.interp.causes.get Cause.clip.index = some (.members m) ∧ ∀ i, m.get i = true ↔
          (∃ m', old = some (.members m') ∧ m'.get i = true) ∨ ∃ o, clips o ∧ o.val = i.val)) ∧
     t.interp = { s.interp with causes := t.interp.causes } ∧
     (∀ c, c ≠ Cause.clip.index → t.interp.causes.get c = s.interp.causes.get c) ∧
     (s.interp.enabled.get Cause.clip.index = false → t.interp = s.interp) ∧
     ((∀ o, (y o < -32768 ∨ 32767 < y o) → s.sound.clip.get o = true) → t.interp = s.interp) ∧
     ∀ k, (s.fifo k).state = .running →
       (∀ f rest, (s.fifo k).frames = f :: rest → (t.fifo k).frames = rest ∧ (t.fifo k).state = .running) ∧
       ((s.fifo k).frames = [] → t.fifo k = { s.fifo k with
         state := .priming, underruns := min ((s.fifo k).underruns + 1) 65535 })) ∧
    (let resumes (k : Fin 4) : Bool := decide ((s.fifo k).state = .running ∧ (s.fifo k).frames ≠ [] ∧
       (s.fifo k).paused = true ∧ (s.fifo k).frames.length - 1 ≤ (s.fifo k).lowMark)
     (∀ k f rest, (s.fifo k).state = .running → (s.fifo k).frames = f :: rest →
       t.fifo k = { s.fifo k with frames := rest, paused := (s.fifo k).paused && !resumes k }) ∧
     (∀ k, (s.fifo k).state ≠ .running → t.fifo k = s.fifo k) ∧
     t.link = (if s.link.lock = .locked then
         { s.link with
           back := s.link.back ++ (([0, 1, 2, 3].filter resumes).map fun k => BackPacket.flowMarker k .resume).take
             (64 - s.link.back.length) }
       else s.link)) ∧
    t.chimes = (s.chimes.advance s.signals.nearest.value 0).advance s.signals.nearest.value 1 ∧
    t.streams = s.streams.map (fun r => { r with stallTimer := r.stallTimer.tick }) ∧
    t.screens = s.screens.map (fun u => { u with period := u.period.tick }) ∧
    t.signals = { s.signals with
      filter := { s.signals.filter with timer := s.signals.filter.timer.tick }
      records := s.signals.records.map fun r => { r with timer := r.timer.tick } } ∧
    t.takeover = { s.takeover with
      entryTimer := s.takeover.entryTimer.tick, lingerTimer := s.takeover.lingerTimer.tick
      exitTimer := s.takeover.exitTimer.tick } ∧
    Timer.stopped.tick = .stopped ∧ (∀ n, (Timer.running n).tick = .running (n - 1)) ∧
    s.keepsBut [.link, .streams, .screens, .signals, .takeover, .sound, .chimes, .ports, .interp] t ∧
    t.ports.display = s.ports.display ∧ t.sound.current = s.sound.current ∧
    t.sound.active = s.sound.active ∧ t.sound.shadow = s.sound.shadow

/-- An audio block boundary: a pending MIX item is applied; the two voices and the takeover state are read, and the
readings kept for AUDIO STATUS; the target gains are formed from the active copy and these readings, chimes neither
ducked nor attenuated; each current gain moves by the ramp step. That the row has this effect wherever it stands,
without a count of the samples since the last boundary, is the model's choice (log 2). -/
def Obligations.BlockBoundaryGains : Prop :=
  ∀ s : State,
    let g := if (s.item .mix).isSome ∧ s.held .mix = false then s.sound.shadow else s.sound.active
    let zone (o : Fin 8) : Fin 3 := if o.val ≤ 3 then 0 else if o.val ≤ 5 then 1 else 2
    let duck (o : Fin 8) : Prop := (s.chimes.playing 0 = true ∨ s.chimes.playing 1 = true) ∧
      g.duckZones.get (zone o) = true
    let reverse (o : Fin 8) : Prop := s.takeover.state ≠ .normal ∧ o.val ≤ 3
    ∃ t : State, exec .audioBlockBoundary s = .next t ∧ t.sound.active = g ∧ t.sound.shadow = s.sound.shadow ∧
      t.sound.fifos = s.sound.fifos ∧ t.sound.clip = s.sound.clip ∧
      t.sound.sawVoiceA = (s.chimes.voices.get 0).isSome ∧ t.sound.sawVoiceB = (s.chimes.voices.get 1).isSome ∧
      (t.sound.sawNormal = true ↔ s.takeover.state = .normal) ∧
      (∀ (i : Fin 10) (o : Fin 8),
        let gain := (g.gains.get i).get o
        let target := (t.sound.targets.get i).get o
        let old := (s.sound.current.get i).get o
        (8 ≤ i.val → target = gain) ∧
        (i.val < 8 → ∀ k : Nat,
          (duck o ∧ reverse o ∧ k = min g.duckFactor s.takeover.settings.attenuation ∨
            duck o ∧ ¬ reverse o ∧ k = min g.duckFactor 32768 ∨
            ¬ duck o ∧ reverse o ∧ k = min 32768 s.takeover.settings.attenuation ∨
            ¬ duck o ∧ ¬ reverse o ∧ k = 32768) →
          target = (gain * k + 16384) / 32768) ∧
        (t.sound.current.get i).get o =
          if old < target then min (old + g.rampStep) target else max (old - g.rampStep) target) ∧
      s.keepsBut [.sound, .tables] t ∧
      t.tables = (match s.item .mix with
        | none => s.tables
        | some i => { s.tables with
            items := s.tables.items.set Group.mix.index none
            outcomes := s.tables.outcomes.set Group.mix.index ⟨.applied, some i.lastTag, none⟩ })

/-- The writes of the MIX group: the gains of an input from an output on, each clamped to unity with the clamped
ones counted, and the three fields of WRITE DUCK; both go to the shadow copy alone. The checks of WRITE MIX in their
order: the input, the first output and the count, BAD_VALUE; the number of gains, BAD_LENGTH. -/
def Obligations.MixShadowWrites : Prop :=
  ∀ (s : State) (p : ControlPacket),
    (∀ (inp first cnt : Word) (gains : List Word) (i : Fin 10), inp.toNat = i.val → 1 ≤ cnt.toNat →
      first.toNat + cnt.toNat ≤ 8 → gains.length = cnt.toNat →
      s.executes p 26 (inp :: first :: cnt :: gains) →
      ∃ m : Gains, exec .writeMix s = .next ((s.popCommand.setSound { s.sound with
          shadow := { s.sound.shadow with gains := m } }).replied p .ok
            [BitVec.ofNat 16 (gains.filter fun w => decide (32768 < w.toNat)).length]) ∧
        (∀ j, j ≠ i → m.get j = s.sound.shadow.gains.get j) ∧
        ∀ (o : Fin 8),
          (∀ w, first.toNat ≤ o.val → gains[o.val - first.toNat]? = some w →
            (m.get i).get o = min w.toNat 32768) ∧
          (o.val < first.toNat ∨ first.toNat + cnt.toNat ≤ o.val →
            (m.get i).get o = (s.sound.shadow.gains.get i).get o)) ∧
    (∀ (inp first cnt : Word) (gains : List Word), s.executes p 26 (inp :: first :: cnt :: gains) →
      let refused (e : Result) := exec .writeMix s = .next ((s.popCommand.noteRefusal p e).replied p e [])
      let ranged := inp.toNat ≤ 9 ∧ 1 ≤ cnt.toNat ∧ first.toNat + cnt.toNat ≤ 8
      (¬ ranged → refused .badValue) ∧ (ranged → gains.length ≠ cnt.toNat → refused .badLength)) ∧
    (∀ (ramp duck zones : Word), s.executes p 27 [ramp, duck, zones] →
      (1 ≤ ramp.toNat → ramp.toNat ≤ 32768 → duck.toNat ≤ 32768 → zones.toNat < 8 →
        ∃ z : FlagSet 3, (∀ k : Fin 3, z.get k = zones.getLsbD k.val) ∧
          exec .writeDuck s = .next ((s.popCommand.setSound { s.sound with
            shadow := { s.sound.shadow with
              rampStep := ramp.toNat, duckFactor := duck.toNat, duckZones := z } }).replied p .ok [])) ∧
      (ramp.toNat = 0 ∨ 32768 < ramp.toNat ∨ 32768 < duck.toNat ∨ 8 ≤ zones.toNat →
        exec .writeDuck s = .next ((s.popCommand.noteRefusal p .badValue).replied p .badValue [])))

/-! ### Chimes -/

/-- The tone of a step: its phase increment, its sample, and the advance of the phase by a sample instant within a
millisecond. The duration of a gap step of the park tone, by the park rate table and the nearest distance. A started
instance enters step 0. At the last sample of a millisecond the next one begins, or the step is finished: the loop
start follows the loop end while repeats are left, else the next step, and behind the last step the instance is
complete; a step of duration 0 is skipped. A voice gives 0 while it is free, and otherwise the sample of its context's
step at the context's phase; it advances its context; one whose instance is complete takes at once the stack top or
the queue head, whichever has the higher priority, the stack top at equal priority, and stays free without either. The
sine table's entries other than those named are the model's reading of its formula (log 29). -/
def Obligations.ToneAndParkGap : Prop :=
  ((∀ f : Nat, f ≤ 8000 → (phaseIncrement f).toNat = (2 * f * 4294967296 + 48000) / 96000) ∧
   (phaseIncrement 0 = 0 ∧ phaseIncrement 1000 = 89478485#32) ∧
   (∀ (x : ChimeStep) (phase : BitVec 32),
     let level := x.level + x.level / 128
     (x.frequency = 0 → toneSample x phase = 0) ∧
     (x.frequency ≠ 0 → x.waveform = .square →
       toneSample x phase = ((if phase.toNat < 2147483648 then 32767 else -32767) * (level : Int)).fdiv 256) ∧
     (x.frequency ≠ 0 → x.waveform = .sine →
       toneSample x phase = (sineEntry (phase.toNat / 16777216) * (level : Int)).fdiv 256)) ∧
   (sineEntry 0 = 0 ∧ sineEntry 64 = 32767 ∧ sineEntry 128 = 0 ∧ sineEntry 192 = -32767) ∧
   ∀ (rates : ParkRates) (d : Nat) (pat : Pattern) (x : ChimeStep) (c : Context), c.sampleInMs < 47 →
     c.advance rates d pat x = some { c with
       sampleInMs := c.sampleInMs + 1, phase := c.phase + phaseIncrement x.frequency }) ∧
  (∀ (rates : ParkRates) (d : Nat) (x : ChimeStep),
     (x.gap = false → stepDuration rates d parkTone x = x.duration) ∧
     (∀ p : Fin 16, p ≠ 15 → stepDuration rates d p x = x.duration) ∧
     (x.gap = true → d < rates.continuous → stepDuration rates d parkTone x = 0) ∧
     ∀ (before after : List ParkEntry) (e : ParkEntry), x.gap = true → rates.continuous ≤ d →
       rates.entries = before ++ e :: after → (∀ b ∈ before, b.threshold ≤ d) → d < e.threshold →
       stepDuration rates d parkTone x = e.gap) ∧
  (∀ (rates : ParkRates) (d : Nat) (pat : Pattern) (x : ChimeStep) (p : Fin 16) (repeats order : Nat),
     pat.steps[0]? = some x → 0 < stepDuration rates d p x →
     startContext rates d pat p repeats order = some ⟨p, 0, stepDuration rates d p x - 1, 0, repeats, 0, order⟩) ∧
  (∀ (rates : ParkRates) (d : Nat) (pat : Pattern) (x : ChimeStep) (c : Context), c.sampleInMs = 47 →
     (0 < c.msLeft → c.advance rates d pat x = some { c with
       sampleInMs := 0, msLeft := c.msLeft - 1, phase := c.phase + phaseIncrement x.frequency }) ∧
     (c.msLeft = 0 →
       let loops (i n : Nat) : Prop := i = pat.loopEnd ∧ 0 < n
       let next (i n j m : Nat) : Prop := loops i n ∧ j = pat.loopStart ∧ m = (if n = 255 then 255 else n - 1) ∨
         ¬ loops i n ∧ j = i + 1 ∧ j < pat.steps.length ∧ m = n
       let long (j : Nat) : Nat := match pat.steps[j]? with
         | some y => stepDuration rates d c.pattern y
         | none => 0
       let entered (j m : Nat) : Context :=
         { c with step := j, repeats := m, msLeft := long j - 1, sampleInMs := 0, phase := 0 }
       (¬ loops c.step c.repeats → pat.steps.length ≤ c.step + 1 → c.advance rates d pat x = none) ∧
       (∀ j m, next c.step c.repeats j m → 0 < long j → c.advance rates d pat x = some (entered j m)) ∧
       ∀ j m j' m', next c.step c.repeats j m → j < pat.steps.length → long j = 0 → next j m j' m' → 0 < long j' →
         c.advance rates d pat x = some (entered j' m'))) ∧
  ∀ (u : ChimeUnit) (d : Nat) (v : Fin 2),
    (u.voices.get v = none → u.sample v = 0 ∧ u.advance d v = u) ∧
    (∀ c pat x, u.voices.get v = some c → u.patterns.get c.pattern = some pat → pat.steps[c.step]? = some x →
      u.sample v = toneSample x c.phase ∧
      (∀ c', c.advance u.rates d pat x = some c' →
        u.advance d v = { u with voices := u.voices.set v (some c') }) ∧
      (c.advance u.rates d pat x = none → u.advance d v = u.takeNext d v)) ∧
    (u.stack = [] → u.queue = [] → u.takeNext d v = { u with voices := u.voices.set v none }) ∧
    (∀ below c pc, u.stack = below ++ [c] → u.patterns.get c.pattern = some pc →
      (∀ r rest, u.queue = r :: rest → r.priority ≤ pc.priority) →
      u.takeNext d v = { u with stack := below, voices := u.voices.set v (some c) }) ∧
    ∀ r rest pat, u.queue = r :: rest → u.patterns.get r.pattern = some pat →
      (∀ below c, u.stack = below ++ [c] → ∃ pc, u.patterns.get c.pattern = some pc ∧ pc.priority < r.priority) →
      u.takeNext d v = { u with
        queue := rest, starts := min (u.starts + 1) 65535
        voices := u.voices.set v
          (startContext u.rates d pat r.pattern r.repeats (min (u.starts + 1) 65535)) }

/-- PLAY CHIME: its checks in order; a present pattern merges, and restarts on its voice when its restart flag is
on; a free voice starts it, voice A first; with both voices playing a request above the lower priority preempts: the
lower priority, then the later start order, then voice B; the context goes on the stack, whose bottom is dropped
with CHIME_DROPPED when it is full; else the request is queued in its place by priority and arrival, and a queue
above 8 drops the last with CHIME_DROPPED, with DROPPED for the new one. STOP CHIME: its checks in order; FINISH
sets repeats left to 0 wherever the pattern is present; CUT removes it from queue and stack, and a voice that held
it takes its next. -/
def Obligations.PlayAndStopChime : Prop :=
  (∀ (s : State) (p : ControlPacket) (nr : Word), s.executes p 30 [nr] →
     let refused (e : Result) := exec .playChime s = .next ((s.popCommand.noteRefusal p e).replied p e [])
     (15 < nr.toNat → refused .badValue) ∧ (nr.toNat = 15 → refused .reservedItem) ∧
     ∀ q : Fin 16, q.val = nr.toNat → nr.toNat < 15 →
       (s.chimes.patterns.get q = none → refused .notDefined) ∧
       ∀ pat, s.chimes.patterns.get q = some pat →
         s.chimes.requestTaken s.signals.nearest.value q pat fun c r dropped =>
           exec .playChime s = .next (((s.popCommand.setChimes c).raisedFor dropped).replied p r [])) ∧
  (∀ (s : State) (p : ControlPacket) (nr kd : Word), s.executes p 31 [nr, kd] →
     let refused (e : Result) := exec .stopChime s = .next ((s.popCommand.noteRefusal p e).replied p e [])
     (15 < nr.toNat ∨ 1 < kd.toNat → refused .badValue) ∧
     (nr.toNat = 15 → kd.toNat ≤ 1 → refused .reservedItem) ∧
     ∀ q : Fin 16, q.val = nr.toNat → nr.toNat < 15 → kd.toNat ≤ 1 →
       (s.chimes.present q = false → refused .notActive) ∧
       (s.chimes.present q = true → kd.toNat = 0 →
         let done (c : Context) : Context := if c.pattern = q then { c with repeats := 0 } else c
         exec .stopChime s = .next ((s.popCommand.setChimes { s.chimes with
           voices := s.chimes.voices.map fun o => o.map done
           queue := s.chimes.queue.map fun r => if r.pattern = q then { r with repeats := 0 } else r
           stack := s.chimes.stack.map done }).replied p .ok [])) ∧
       (s.chimes.present q = true → kd.toNat = 1 →
         let left := { s.chimes with
           queue := s.chimes.queue.filter fun r => r.pattern != q
           stack := s.chimes.stack.filter fun c => c.pattern != q }
         ((∀ v c, s.chimes.voices.get v = some c → c.pattern ≠ q) →
           exec .stopChime s = .next ((s.popCommand.setChimes left).replied p .ok [])) ∧
         ∀ v c, s.chimes.voices.get v = some c → c.pattern = q →
           (∀ w c', s.chimes.voices.get w = some c' → c'.pattern = q → w = v) →
           exec .stopChime s = .next
             ((s.popCommand.setChimes (left.takeNext s.signals.nearest.value v)).replied p .ok [])))

/-- The writes of the direct chime tables. WRITE PATTERN, its checks in order: the pattern number, BAD_VALUE; the
step count and the length of the steps, BAD_LENGTH; the fields, and for pattern 15 a loop region that plays,
BAD_VALUE; a save in flight; a pattern that is present, IN_USE. Then the pattern is stored, with every frequency but
0 clamped and the clamped ones counted in the reply. WRITE PARK RATES: the count and the length, BAD_LENGTH; the
ranges and the rising thresholds, BAD_VALUE; a save in flight. Then the table is stored and the park tone's
eligibility is judged again. A judgement without another result leaves the voices alone; when the tone becomes
eligible, pattern 15 is requested like any other (a free voice, preemption, queue or drop), and an EMPTY one has no
effect; when it becomes ineligible, pattern 15 is cut wherever it is present. A flag or choice outside its coding is
refused with BAD_VALUE by the model's choice (log 12). -/
def Obligations.ChimeTableWrites : Prop :=
  (∀ (q : Fin 16) (n : Nat) (rest : List Word), 1 ≤ n → n ≤ 32 → rest.length = 5 * n + 5 →
    let number (i : Nat) : Nat := (rest.getD i 0).toNat
    let start := number (5 * n)
    let stop := number (5 * n + 1)
    let step (k : Nat) : ChimeStep :=
      { frequency := if number (5 * k) = 0 then 0 else max 100 (min 8000 (number (5 * k)))
        waveform := if number (5 * k + 1) = 0 then .sine else .square
        level := number (5 * k + 2), duration := number (5 * k + 3), gap := number (5 * k + 4) == 1 }
    let pat : Pattern :=
      { steps := (List.range n).map step, loopStart := start, loopEnd := stop
        repeats := number (5 * n + 2), priority := number (5 * n + 3), restart := number (5 * n + 4) == 1 }
    let good := (∀ k, k < n → number (5 * k + 1) ≤ 1 ∧ number (5 * k + 2) ≤ 255 ∧
        1 ≤ number (5 * k + 3) ∧ number (5 * k + 3) ≤ 2000 ∧ number (5 * k + 4) ≤ 1) ∧
      start ≤ stop ∧ stop < n ∧ pat.repeats ≤ 255 ∧ pat.priority ≤ 7 ∧ number (5 * n + 4) ≤ 1 ∧
      (q = 15 → ∃ k, start ≤ k ∧ k ≤ stop ∧ number (5 * k + 4) = 0)
    let clamped := ((List.range n).filter fun k => decide (number (5 * k) ≠ (step k).frequency)).length
    let read := patternOf q (rest.take (5 * n)) (rest.drop (5 * n))
    (¬ good → read = none) ∧ (good → read = some (pat, clamped))) ∧
  (∀ (s : State) (p : ControlPacket) (nr n : Word) (rest : List Word), s.executes p 29 (nr :: n :: rest) →
    let refused (e : Result) := exec .writePattern s = .next ((s.popCommand.noteRefusal p e).replied p e [])
    let counted := 1 ≤ n.toNat ∧ n.toNat ≤ 32 ∧ rest.length = 5 * n.toNat + 5
    (15 < nr.toNat → 5 ≤ rest.length → refused .badValue) ∧
    ∀ q : Fin 16, nr.toNat = q.val →
      let read := patternOf q (rest.take (5 * n.toNat)) (rest.drop (5 * n.toNat))
      (¬ counted → refused .badLength) ∧ (counted → read = none → refused .badValue) ∧
      ∀ pat clamped, counted → read = some (pat, clamped) →
        (s.loader.saveStep ≠ .none → refused .busy) ∧
        (s.loader.saveStep = .none → s.chimes.present q = true → refused .inUse) ∧
        (s.loader.saveStep = .none → s.chimes.present q = false →
          exec .writePattern s = .next ((s.popCommand.setChimes { s.chimes with
            patterns := s.chimes.patterns.set q (some pat) }).replied p .ok [BitVec.ofNat 16 clamped]))) ∧
  (∀ pat : Pattern, pat.regionPlays = true ↔
    ∃ k x, pat.loopStart ≤ k ∧ k ≤ pat.loopEnd ∧ pat.steps[k]? = some x ∧ x.gap = false) ∧
  (∀ (s : State) (p : ControlPacket) (n : Word) (rest : List Word), s.executes p 33 (n :: rest) →
    let refused (e : Result) := exec .writeParkRates s = .next ((s.popCommand.noteRefusal p e).replied p e [])
    let counted := n.toNat ≤ 8 ∧ rest.length = 2 * n.toNat + 1
    let number (i : Nat) : Nat := (rest.getD i 0).toNat
    let good := (∀ k, k < n.toNat → 1 ≤ number (2 * k) ∧ number (2 * k) ≤ 1000 ∧ number (2 * k + 1) ≤ 2000) ∧
      (∀ k, k + 1 < n.toNat → number (2 * k) < number (2 * k + 2)) ∧ number (2 * n.toNat) ≤ 1000
    (¬ counted → refused .badLength) ∧ (counted → ¬ good → refused .badValue) ∧
    (counted → good → s.loader.saveStep ≠ .none → refused .busy) ∧
    (counted → good → s.loader.saveStep = .none →
      let entries := (List.range n.toNat).map fun k => (⟨number (2 * k), number (2 * k + 1)⟩ : ParkEntry)
      ratesGood ⟨entries, number (2 * n.toNat)⟩ ∧ n :: rest = parkWords ⟨entries, number (2 * n.toNat)⟩)) ∧
  ∀ (s : State) (p : ControlPacket) (rates : ParkRates), s.loader.saveStep = .none → ratesGood rates →
    s.executes p 33 (parkWords rates) →
    let d := s.signals.nearest
    let now := s.takeover.reverse && d.fresh && rates.entries.any fun e => decide (d.value < e.threshold)
    let judged := { s.chimes with rates := rates, eligible := now, judgedOn := d }
    (∃ t : State, exec .writeParkRates s = .next (t.replied p .ok []) ∧
      t.chimes.rates = rates ∧ t.chimes.patterns = s.chimes.patterns ∧ t.chimes.eligible = now ∧
      s.popCommand.keepsBut [.chimes, .interp] t ∧
      (now = s.chimes.eligible → t = s.popCommand.setChimes judged) ∧
      (now = true → s.chimes.eligible = false → s.chimes.patterns.get 15 = none →
        t = s.popCommand.setChimes judged) ∧
      (now = false → s.chimes.eligible = true → chimeLaw s →
        t.chimes.present 15 = false ∧ t.interp = s.popCommand.interp)) ∧
    ∀ pat, now = true → s.chimes.eligible = false → s.chimes.patterns.get 15 = some pat →
      judged.requestTaken d.value 15 pat fun c _ dropped =>
        exec .writeParkRates s = .next (((s.popCommand.setChimes c).raisedFor dropped).replied p .ok [])

/-! ### Reports -/

/-- The commands that report: each is answered OK with the report of its unit as it stands. Those without a clear
option change nothing; with the clear option, and for TAKEOVER STATUS always, the flags or counters reported are
cleared afterwards and nothing else changes. The fields of every report follow, in their order. That order, the list
counts, of which the palette entries of READ TABLE have none, the presence fields, the parts that a request announces
without one (stream 7 in STREAM STATUS, the pattern in CHIME STATUS), the reasons and the head page number of IMAGE
INFO, the values coded as flags and the places of named values are the model's (log 10), as are the copy selectors,
the forms of READ TABLE and its answer to a group that is neither GUIDE nor PALETTES, and the answer of READ OBJECT to
a selector that names no copy (log 11), the answer to a presence field that is neither 0 nor 1 (log 12), the bits of a
set (log 27) and the whole milliseconds of a timer (log 28). READ TABLE reads either copy, with the palettes of one
screen as the ACTIVE ones; the key of a guide set never written is a free value (log 22). A selector, number or option
outside its values, or a range outside the table, is refused with BAD_VALUE, and a form of another length with
BAD_LENGTH. -/
def Obligations.StatusReports : Prop :=
  let num (n : Nat) : Word := BitVec.ofNat 16 n
  let int (i : Int) : Word := BitVec.ofInt 16 i
  let byte (b : Byte) : Word := b.setWidth 16
  let flag (b : Bool) : Word := if b then 1#16 else 0#16
  let part (o : Option (List Word)) : List Word := match o with
    | some ws => 1#16 :: ws
    | none => [0#16]
  let orNone (o : Option Nat) : Word := match o with
    | some n => num n
    | none => 0xFFFF#16
  let wide (n : Nat) : List Word := [num (n / 65536), num (n % 65536)]
  let level (l : Level) : Word := match l with
    | .engaged => 0#16
    | .released => 1#16
  let streamState (x : StreamState) : Word := match x with
    | .closed => 0#16
    | .priming => 1#16
    | .running => 2#16
    | .stalled => 3#16
    | .parked => 4#16
  let timing (x : TimingMode) : Word := match x with
    | .free => 0#16
    | .locked => 1#16
  let timer (x : Timer) : List Word := match x with
    | .stopped => [0#16]
    | .running n => [1#16, num (n / 48)]
  let nearest (x : Nearest) : List Word := [num x.value, if x.fresh then 0#16 else 1#16]
  let color (c : RGBA) : List Word := [byte c.r, byte c.g, byte c.b, byte c.a]
  (∀ (n : Nat) (set : FlagSet n), n ≤ 16 → (setWord set).toNat < 2 ^ n ∧
    ∀ k : Fin n, (setWord set).getLsbD k.val = set.get k) ∧
  (∀ (s : State) (k : StreamId), let r := s.stream k
    s.streamReport k =
      [streamState r.state, num r.width, num r.height, if r.format = .rgb565 then 0#16 else 1#16, num r.capacity,
        num r.readyLevel, num (if k = camera then s.takeover.settings.cameraLoss else r.stallTimeout),
        num r.queue.length] ++
      part (r.assembly.map fun a => [num a.line, num a.pixels.length]) ++
      [num r.overruns, num r.underruns, num r.incompletes, num r.stalls, num r.strays] ++
      if k = camera then [flag (!s.cameraLocked), num r.startsToSkip] else []) ∧
  (∀ (u : ScreenUnit) (copy : Selector), let r := if copy = .active then u.active else u.shadow
    u.report copy =
      [num r.width, num r.height, num r.rate, orNone (r.source.map Fin.val), num r.originX, num r.originY,
        byte r.fill.r, byte r.fill.g, byte r.fill.b, num r.holdLimit, num r.cameraX, num r.cameraY,
        flag r.guideEnable, flag u.started, timing u.timing, byte u.counter,
        orNone ((u.frame.bind FrameRec.shown).map Fin.val)]) ∧
  (∀ u : SignalUnit,
    u.report =
      ((List.finRange 7).flatMap fun i => let r := u.records.get i
        [flag (u.map.get i).isSome, int r.value,
          if r.state = .never then 0#16 else if r.state = .fresh then 1#16 else 2#16,
          flag r.clamped, flag r.changed]) ++
      nearest u.nearest ++
      [level u.filter.level, level u.filter.last, num u.filter.agree, level u.request, num u.shortFrames,
        num u.settings.interval, if u.settings.polarity = .activeHigh then 0#16 else 1#16,
        if u.settings.source = .line then 0#16 else if u.settings.source = .can then 1#16 else 2#16,
        num u.settings.bitRate]) ∧
  (∀ x : TakeoverSettings,
    takeoverWords x =
      [num x.entryDeadline, num x.exitDeadline, num x.cameraLoss, num x.lingerTime, num x.lingerSpeed,
        num x.manualSpeed, num x.discardFrames, flag x.mirror, orNone (x.lostImage.map Fin.val),
        orNone (x.entryChime.map Fin.val), num x.attenuation, num x.width, num x.height,
        if x.format = .rgb565 then 0#16 else 1#16, num x.capacity, num x.readyLevel]) ∧
  (∀ s : State, let t := s.takeover
    s.takeoverReport =
      [flag t.started, match t.state with
        | .normal => 0#16
        | .switchingIn => 1#16
        | .showing => 2#16
        | .linger => 3#16
        | .switchingOut => 4#16,
        num ((if t.reverse then 1 else 0) + if t.manual then 2 else 0), flag t.reverseChanged,
        flag t.manualChanged, flag t.speedRemoved,
        if t.state = .normal ∨ t.presentation = .picture then 0#16 else 1#16, timing (s.screen front).timing] ++
      timer t.entryTimer ++ timer t.lingerTimer ++ timer t.exitTimer ++
      [flag t.exitDue, level s.signals.request, streamState (s.stream camera).state] ++
      takeoverWords t.settings) ∧
  (let vertex (v : Vertex) : List Word := [int v.x, int v.y, num v.d]
    let vertices (vs : List Vertex) : List Word := num vs.length :: vs.flatMap vertex
    let segments (ms : List SegmentMark) : List Word := num ms.length :: ms.flatMap fun m =>
      [if m.band = .c0 then 0#16 else if m.band = .c1 then 1#16 else 2#16, flag m.cut]
    guideReport none = [1#16] ∧
    (∀ r : GuideResult, guideReport (some r) =
      [0#16, byte r.frame, match r.source with
        | .fresh => 0#16
        | .straight => 1#16
        | .hold => 2#16
        | .hidden => 3#16] ++
      part (r.steering.map fun i => [int i]) ++ part (r.clamped.map fun i => [int i]) ++
      part (r.bracket.map fun b => [num b.index, num b.weight]) ++ [orNone r.cutDistance] ++
      vertices r.leftVertices ++ vertices r.rightVertices ++ segments r.leftSegments ++
      segments r.rightSegments ++ [num r.leftDrawn, num r.rightDrawn]) ∧
    (∀ g : GuideTable, guideGeneralWords g =
      [num g.setCount, num g.vertices, num g.band1, num g.band2] ++ color g.color0 ++ color g.color1 ++
      color g.color2 ++ [num g.lineWidth, match g.staleAction with
        | .hide => 0#16
        | .straight => 1#16
        | .hold => 2#16, flag g.obstacleCut]) ∧
    ∀ g : GuideSet, guideSetWords g =
      [int g.key, num g.left.length] ++ g.left.flatMap vertex ++ g.right.flatMap vertex) ∧
  (∀ (s : State) (n : Fin 128), ∃ naming : FlagSet 3,
    (∀ k, naming.get k = true ↔ ∃ c, c ∈ (s.overlay.screens.get k).list ∧ c.fields.image = n) ∧
    s.imageReport n =
      part ((s.overlay.images.get n).map fun d =>
        [num d.width, num d.height, if d.format = .index8 then 0#16 else 1#16, num d.palette.val] ++
        wide d.size ++ [num d.pages.length, orNone (d.pages.map Fin.val).min?,
          orNone (d.pages.map Fin.val).max?]) ++
      [flag (s.imageInUse n), flag (s.overlay.objects.toList.any fun o => o.any fun f => f.image == n),
        setWord naming, flag (s.takeover.settings.lostImage == some n && (s.overlay.images.get n).isSome),
        num s.overlay.freePages.length, orNone (s.overlay.freePages.head?.map Fin.val)] ++
      (List.finRange 3).map fun k => num (s.overlay.screens.get k).overflows) ∧
  (∀ f : ObjectFields,
    objectWords f =
      [num f.screen.val, if f.plane = .menu then 0#16 else 1#16, num f.image.val, int f.x, int f.y, num f.depth,
        num f.alpha, flag f.visible, flag f.keep] ++
      part (f.clip.map fun c => [num c.x0, num c.y0, num c.x1, num c.y1]) ++
      part (f.blink.map fun b => [num b.on, num b.off])) ∧
  (∀ (u : OverlayUnit) (k : ScreenId) (e : Fin 96),
    activeReport u k e = part (((u.screens.get k).list.find? fun c => c.entry == e).map fun c =>
      objectWords c.fields ++ part (c.counter.map fun n => [num n, flag (match c.fields.blink with
        | some b => decide (n < b.on)
        | none => true)]))) ∧
  (∀ (u : SoundUnit) (copy : Selector), let m := if copy = .active then u.active else u.shadow
    let gains (g : Gains) : List Word :=
      (List.finRange 10).flatMap fun i => (List.finRange 8).map fun o => num ((g.get i).get o)
    u.report copy =
      (u.fifos.toList.flatMap fun f =>
        [if f.state = .closed then 0#16 else if f.state = .priming then 1#16 else 2#16, num f.frames.length,
          num f.startLevel, num f.highMark, num f.lowMark, flag f.paused, num f.overruns, num f.underruns,
          num f.strays]) ++
      gains m.gains ++ [num m.rampStep, num m.duckFactor, setWord m.duckZones] ++ gains u.current ++
      gains u.targets ++ [flag u.sawVoiceA, flag u.sawVoiceB, flag u.sawNormal] ++
      (List.finRange 8).map fun o => flag (u.clip.get o)) ∧
  (∀ (u : ChimeUnit) (o : Option (Fin 16)),
    let context (c : Context) : List Word :=
      [num c.pattern.val, num c.step, num c.msLeft, num c.sampleInMs, num c.repeats] ++ wide c.phase.toNat ++
      [num c.order]
    u.report o =
      part ((u.voices.get 0).map context) ++ part ((u.voices.get 1).map context) ++
      num u.queue.length :: (u.queue.flatMap fun r => [num r.pattern.val, num r.priority, num r.repeats]) ++
      num u.stack.length :: u.stack.flatMap context ++ flag u.eligible :: nearest u.judgedOn ++
      num u.rates.entries.length :: (u.rates.entries.flatMap fun e => [num e.threshold, num e.gap]) ++
      num u.rates.continuous :: match o with
        | some q => part ((u.patterns.get q).map fun x => num x.steps.length ::
            (x.steps.flatMap fun y => [num y.frequency, if y.waveform = .sine then 0#16 else 1#16, num y.level,
              num y.duration, flag y.gap]) ++
            [num x.loopStart, num x.loopEnd, num x.repeats, num x.priority, flag x.restart])
        | none => []) ∧
  (∀ s : State,
    let saving := s.loader.saveStep != .none
    s.commitReport = flag saving ::
      (Group.all.flatMap fun g => part ((s.item g).map fun i =>
        part (i.screens.map fun set => [setWord set]) ++ byte i.lastTag :: part (i.notifyTag.map fun t => [byte t]) ++
        [flag (saving && (g == .screenFront || g == .palettes || g == .guide))])) ++
      s.tables.outcomes.toList.flatMap fun r => (match r.outcome with
        | .none => 0xFFFF#16
        | .applied => 1#16
        | .droppedInvalid => 2#16
        | .droppedReset => 3#16) ::
        part (r.tag.map fun t => [byte t]) ++ part (r.frame.map fun f => [num f.screen.val, byte f.frame])) ∧
  ∀ (s : State) (p : ControlPacket),
    let reads (i : Instr) (data : List Word) := exec i s = .next (s.popCommand.replied p .ok data)
    let clears (i : Instr) (cl : Word) (cleared : State) (data : List Word) :=
      (cl.toNat = 0 → reads i data) ∧ (cl.toNat = 1 → exec i s = .next (cleared.replied p .ok data))
    (∀ (nr sel : Word) (k : ScreenId), nr.toNat = k.val → s.executes p 5 [nr, sel] →
      (sel.toNat = 0 → reads .readScreen ((s.screen k).report .active)) ∧
      (sel.toNat = 1 → reads .readScreen ((s.screen k).report .shadow))) ∧
    (s.executes p 15 [] → reads .readGuideResult (guideReport s.guide.result)) ∧
    (∀ (nr : Word) (e : Fin 96), nr.toNat = e.val →
      (s.executes p 23 [nr, 0#16] →
        reads .readObject (optionalWords ((s.overlay.objects.get e).map objectWords))) ∧
      ∀ (sc : Word) (k : ScreenId), sc.toNat = k.val → s.executes p 23 [nr, 1#16, sc] →
        reads .readObject (activeReport s.overlay k e)) ∧
    (∀ (nr : Word) (q : Fin 16), nr.toNat = q.val → s.executes p 32 [nr] →
      reads .chimeStatus (s.chimes.report (some q))) ∧
    (s.executes p 32 [0xFFFF#16] → reads .chimeStatus (s.chimes.report none)) ∧
    (∀ (sel part : Word) (table : GuideTable),
      (sel = 0#16 ∧ table = s.guide.active ∨ sel = 1#16 ∧ table = s.guide.shadow) →
      s.executes p 36 [0#16, sel, part] →
      (part = 0#16 → reads .readTable (guideGeneralWords table)) ∧
      ∀ k : Fin 17, part.toNat = k.val + 1 →
        (∀ g, table.sets.get k = some g → reads .readTable (guideSetWords g)) ∧
        (table.sets.get k = none → ∃ key, exec .readTable s = .next
          ((s.popCommand.setFreeCount (s.freeCount + 1)).replied p .ok [key, 0#16]))) ∧
    (∀ (nr first cnt sc : Word) (q : Fin 4) (k : ScreenId), nr.toNat = q.val → sc.toNat = k.val →
      1 ≤ cnt.toNat → first.toNat + cnt.toNat ≤ 256 →
      let entries (ps : Palettes) := (((ps.get q).toList.drop first.toNat).take cnt.toNat).flatMap rgbaWords
      (s.executes p 36 [1#16, 1#16, nr, first, cnt, 0#16] ∨
          s.executes p 36 [1#16, 1#16, nr, first, cnt, 1#16, sc] →
        reads .readTable (entries s.overlay.shadowPalettes)) ∧
      (s.executes p 36 [1#16, 0#16, nr, first, cnt, 1#16, sc] →
        reads .readTable (entries (s.overlay.screens.get k).palettes))) ∧
    (let refused (i : Instr) (e : Result) := exec i s = .next ((s.popCommand.noteRefusal p e).replied p e [])
     (∀ a : Word,
       (s.executes p 8 [a] → 1 < a.toNat → refused .readSignals .badValue) ∧
       (s.executes p 35 [a] → 1 < a.toNat → refused .commitStatus .badValue) ∧
       (s.executes p 32 [a] → 15 < a.toNat → a ≠ 0xFFFF#16 → refused .chimeStatus .badValue)) ∧
     (∀ a b : Word,
       (s.executes p 3 [a, b] → 7 < a.toNat ∨ 1 < b.toNat → refused .streamStatus .badValue) ∧
       (s.executes p 5 [a, b] → 2 < a.toNat ∨ 1 < b.toNat → refused .readScreen .badValue) ∧
       (s.executes p 19 [a, b] → 127 < a.toNat ∨ 1 < b.toNat → refused .imageInfo .badValue) ∧
       (s.executes p 28 [a, b] → 1 < a.toNat ∨ 1 < b.toNat → refused .audioStatus .badValue) ∧
       (s.executes p 23 [a, b] → (b = 1#16 → refused .readObject .badLength) ∧
         (b ≠ 1#16 → 95 < a.toNat ∨ b ≠ 0#16 → refused .readObject .badValue)) ∧
       ∀ c : Word, s.executes p 23 [a, b, c] → (b = 0#16 → refused .readObject .badLength) ∧
         (b ≠ 0#16 → 95 < a.toNat ∨ b ≠ 1#16 ∨ 2 < c.toNat → refused .readObject .badValue)) ∧
     (∀ (g : Word) (rest : List Word), s.executes p 36 (g :: rest) →
       (1 < g.toNat → refused .readTable .badValue) ∧
       (g = 1#16 → rest.length < 5 → refused .readTable .badLength)) ∧
     (∀ sel part : Word, s.executes p 36 [0#16, sel, part] → 1 < sel.toNat ∨ 17 < part.toNat →
       refused .readTable .badValue) ∧
     ∀ (sel nr first cnt present : Word) (screen : List Word),
       s.executes p 36 ([1#16, sel, nr, first, cnt, present] ++ screen) →
       (1 < present.toNat → refused .readTable .badValue) ∧
       (present.toNat ≤ 1 → screen.length ≠ present.toNat → refused .readTable .badLength) ∧
       (present.toNat ≤ 1 → screen.length = present.toNat →
         1 < sel.toNat ∨ 3 < nr.toNat ∨ ¬ (1 ≤ cnt.toNat ∧ first.toNat + cnt.toNat ≤ 256) ∨
           sel = 0#16 ∧ (∀ sc, screen = [sc] → 2 < sc.toNat) →
         refused .readTable .badValue)) ∧
    (s.executes p 40 [] → reads .partStatus
      ([0x0212#16, 1#16, if s.interp.startUp = .ready then 1#16 else 0#16] ++
        s.loader.singles.toList.map (choiceWord recordResults) ++
        s.loader.images.toList.map (choiceWord recordResults) ++
        [if s.loader.saveStep = .none then 0#16 else 1#16, BitVec.ofNat 16 s.interp.dropped,
          setWord s.interp.enabled, setWord s.interp.pendingSet])) ∧
    (s.executes p 12 [] → exec .takeoverStatus s = .next ((s.popCommand.setTakeover { s.takeover with
      reverseChanged := false, manualChanged := false, speedRemoved := false }).replied p .ok s.takeoverReport)) ∧
    ∀ cl : Word,
      (∀ (nr : Word) (k : StreamId), nr.toNat = k.val → s.executes p 3 [nr, cl] →
        clears .streamStatus cl (s.popCommand.setStream k { s.stream k with
          overruns := 0, underruns := 0, incompletes := 0, stalls := 0, strays := 0 }) (s.streamReport k)) ∧
      (s.executes p 8 [cl] →
        clears .readSignals cl (s.popCommand.setSignals { s.signals with
          records := s.signals.records.map fun r => { r with clamped := false, changed := false }
          shortFrames := 0 }) s.signals.report) ∧
      (∀ (nr : Word) (n : Fin 128), nr.toNat = n.val → s.executes p 19 [nr, cl] →
        clears .imageInfo cl (s.popCommand.setOverlay { s.overlay with
          screens := s.overlay.screens.map fun sc => { sc with overflows := 0 } }) (s.imageReport n)) ∧
      (∀ (sel : Word) (copy : Selector), (sel = 0#16 ∧ copy = .active ∨ sel = 1#16 ∧ copy = .shadow) →
        s.executes p 28 [sel, cl] →
        clears .audioStatus cl (s.popCommand.setSound { s.sound with
          clip := FlagSet.empty 8
          fifos := s.sound.fifos.map fun f => { f with overruns := 0, underruns := 0, strays := 0 } })
          (s.sound.report copy)) ∧
      (s.executes p 35 [cl] →
        clears .commitStatus cl (s.popCommand.setTables { s.tables with
          outcomes := Tab.replicate 7 ⟨.none, none, none⟩ }) s.commitReport)

/-! ### Commits -/

/-- COMMIT: its two checks, and the taking of every named group, added or merged; a GUIDE that fails validation is
refused alone, and its item stays as it was. The data gives each group's fate and whether a save holds it: the codes
ADDED 0, MERGED 1 and REFUSED 2, the held field and the absence of a count are the model's (log 10), as are the bits
of the groups (log 27). -/
def Obligations.Commit : Prop :=
  ∀ (s : State) (p : ControlPacket) (gw mw : Word) (mask : FlagSet 3), s.executes p 34 [gw, mw] →
    (∀ k : Fin 3, mask.get k = mw.getLsbD k.val) →
    let named (g : Group) : Bool := gw.getLsbD g.index.val
    let refused := exec .commit s = .next ((s.popCommand.noteRefusal p .badValue).replied p .badValue [])
    let taken (g : Group) : Bool := named g && !(g == .guide && !s.guide.shadow.valid)
    let screens (g : Group) : Option (FlagSet 3) := match g with
      | .objects => some (match (s.item .objects).bind Item.screens with
        | some a => a.union mask
        | none => mask)
      | .palettes => some (Tab.replicate 3 true)
      | _ => none
    let notify (old : Option Byte) : Option Byte := if p.notify then some p.tag else old
    let fate (g : Group) : Word := if taken g then (if (s.item g).isSome then 1#16 else 0#16) else 2#16
    let held (g : Group) : Bool := s.loader.saveStep != .none &&
      (g == .screenFront || g == .palettes || g == .guide)
    let result : Result := if named .guide && !s.guide.shadow.valid then .invalidTable else .ok
    (gw.toNat = 0 ∨ 128 ≤ gw.toNat → refused) ∧
    (gw.toNat < 128 → named .objects = true → mw.toNat = 0 ∨ 8 ≤ mw.toNat → refused) ∧
    (1 ≤ gw.toNat → gw.toNat < 128 → (named .objects = true → 1 ≤ mw.toNat ∧ mw.toNat < 8) →
      ∃ items : Tab (Option Item) 7,
        exec .commit s = .next
          (((s.popCommand.setTables { s.tables with items := items }).noteRefusal p result).replied p result
            ((Group.all.filter named).flatMap fun g => [fate g, if held g then 1#16 else 0#16])) ∧
        ∀ g : Group, items.get g.index =
          if taken g then some ⟨screens g, p.tag, notify ((s.item g).bind Item.notifyTag)⟩ else s.item g)

/-! ### Attention -/

/-- A cause raised is recorded when it is enabled and not otherwise: a clear record becomes pending with a count of
1, the raised member, or the raised tag; a pending one adds 1 to its count, up to 65535, takes the member into its
set, and takes the tag as its most recent one; no other cause changes. QUERY ATTENTION answers the pending cause of
the highest priority with its detail and the set still pending, and clears that cause alone; with none pending it
answers NONE and an empty set, and nothing changes. The attention line stays asserted while another cause is
pending. WRITE ATTENTION ENABLES replaces the enable set and clears the causes it leaves out; a set that names
anything else is refused. That a COMMAND_REFUSED detail is its tag and then its count is the model's choice (log
10), as are the bits of the causes (log 27). -/
def Obligations.AttentionCommands : Prop :=
  (∀ (s : State) (c : Cause) (r : Raising),
    let old := s.interp.causes.get c.index
    (s.interp.enabled.get c.index = false → s.raise c r = s) ∧
    (s.interp.enabled.get c.index = true → ∃ d : Detail,
      s.raise c r = s.setInterp { s.interp with causes := s.interp.causes.set c.index (some d) } ∧
      (r = .occurrence → old = none → d = .count 1) ∧
      (∀ n, r = .occurrence → old = some (.count n) → d = .count (min (n + 1) 65535)) ∧
      (∀ k, r = .member k → old = none → ∃ set, d = .members set ∧ ∀ i, set.get i = true ↔ i = k) ∧
      (∀ k set, r = .member k → old = some (.members set) →
        ∃ set', d = .members set' ∧ ∀ i, set'.get i = true ↔ set.get i = true ∨ i = k) ∧
      (∀ t, r = .tag t → old = none → d = .refused t 1) ∧
      ∀ t u n, r = .tag t → old = some (.refused u n) → d = .refused t (min (n + 1) 65535))) ∧
  ∀ (s : State) (p : ControlPacket),
    (s.executes p 38 [] →
      ((∀ c, s.interp.causes.get c = none) →
        exec .queryAttention s = .next (s.popCommand.replied p .ok [0xFFFF#16, 0#16])) ∧
      ∀ (c : Fin 12) (d : Detail), s.interp.causes.get c = some d → (∀ b, b < c → s.interp.causes.get b = none) →
        let causes := s.interp.causes.set c none
        let detail : List Word := match d with
          | .count n => [BitVec.ofNat 16 n]
          | .members set => [setWord set]
          | .refused t n => [t.setWidth 16, BitVec.ofNat 16 n]
        ∃ t : State, exec .queryAttention s = .next t ∧
          t = (s.popCommand.setInterp { s.popCommand.interp with causes := causes }).replied p .ok
            (BitVec.ofNat 16 c.val :: detail ++ [setWord (causes.map Option.isSome)]) ∧
          (t.attentionLine = true ↔ ∃ b, b ≠ c ∧ (s.interp.causes.get b).isSome = true)) ∧
    ∀ w : Word, s.executes p 39 [w] →
      (4096 ≤ w.toNat →
        exec .writeAttentionEnables s = .next ((s.popCommand.noteRefusal p .badValue).replied p .badValue [])) ∧
      (w.toNat < 4096 → ∃ (enabled : FlagSet 12) (causes : Tab (Option Detail) 12),
        (∀ c : Fin 12, enabled.get c = w.getLsbD c.val) ∧
        (∀ c : Fin 12, causes.get c = if w.getLsbD c.val then s.interp.causes.get c else none) ∧
        exec .writeAttentionEnables s = .next ((s.popCommand.setInterp { s.popCommand.interp with
          enabled := enabled, causes := causes }).replied p .ok [setWord (causes.map Option.isSome)]))

/-! ### The settings flash -/

/-- SAVE SETTINGS: its checks in order, the pages of the images saved and the bytes of all the records, STARTED with
the erase as its first step; and the completions of its write steps: erase, header, the records in order, each
formed when its step begins and written behind the one before, and SAVE_DONE with OK. What a save writes: the direct
tables, the active copies of the screens, the guide table and MIX, FRONT's active palettes and the images, each as
the fields of the command that writes it, in a frame of kind, length, content and CRC-32. A failure ends the save
with SAVE_DONE FAILED: a failed erase or header leaves no good header, a failed record the erased area or a frame
with a wrong CRC, which no loading accepts. By the model's choice a completion with no save under way changes
nothing (log 1), what a failed step leaves is read from free values, whose counter advances by 1 (log 7), PATTERNS
lists its patterns in rising number (log 13), and SAVE_DONE names OK by member 0 and FAILED by member 1 (log 13). -/
def Obligations.SaveSettingsSteps : Prop :=
  (∀ (s : State) (p : ControlPacket), s.executes p 37 [] →
    let refused (e : Result) := exec .saveSettings s = .next ((s.popCommand.noteRefusal p e).replied p e [])
    let images := (List.finRange 8).filter fun k => (s.overlay.images.get (flashImage k)).isSome
    let items : List SaveItem :=
      [.single .takeover, .single .signals, .single .screenFront, .single .guide, .single .palettes] ++
      images.map SaveItem.image ++
      [.single .patterns, .single .parkRates, .single .mix, .single .screenRearLeft, .single .screenRearRight]
    let pages := (images.map fun k => (s.overlay.images.get (flashImage k)).elim 0 fun d => d.pages.length).sum
    let size := 8 + (items.map fun i => 9 + (s.recordContent i).length).sum
    (s.loader.saveStep ≠ .none → refused .busy) ∧
    (s.loader.saveStep = .none → 512 < pages ∨ 524288 < size → refused .noRoom) ∧
    (s.loader.saveStep = .none → pages ≤ 512 → size ≤ 524288 →
      exec .saveSettings s = .next ((s.popCommand.setLoader { s.loader with
        saveStep := .erase, saveAddr := 0, saveTodo := items }).replied p .started []))) ∧
  (∀ s : State, memoryLaw s →
    let saving (t : State) (step : SaveStep) (addr : Nat) (todo : List SaveItem) : State :=
      t.setLoader { s.loader with saveStep := step, saveAddr := addr, saveTodo := todo }
    let written (flash : Memory) (addr : Nat) (bytes : List Byte) : Prop := ∀ a,
      flash.read flashDefault a =
        if addr ≤ a ∧ a < addr + bytes.length then bytes.getD (a - addr) 0 else s.flash.read flashDefault a
    let done (o : FlashOutcome) := exec (.flashWriteComplete o) s
    (∀ o, s.loader.saveStep = .none → done o = .next s) ∧
    (s.loader.saveStep = .erase → done .matched = .next (saving (s.setFlash [])
      (.header (headerBytes s.loader.saveTodo.length)) s.loader.saveAddr s.loader.saveTodo)) ∧
    (∀ bytes addr next, (s.loader.saveStep = .header bytes ∧ addr = 0 ∧ next = 8 ∨
        ∃ i, s.loader.saveStep = .record i bytes ∧ addr = s.loader.saveAddr ∧ next = addr + bytes.length) →
      addr + bytes.length ≤ 524288 →
      (∀ i rest, s.loader.saveTodo = i :: rest → ∃ flash, written flash addr bytes ∧
        done .matched = .next (saving (s.setFlash flash)
          (.record i (recordFrame i.kindCode (s.recordContent i))) next rest)) ∧
      (s.loader.saveTodo = [] → ∃ flash, written flash addr bytes ∧
        done .matched = .next ((saving (s.setFlash flash) .none 0 []).raise .saveDone (.member 0)))) ∧
    ∀ o, o ≠ .matched → s.loader.saveStep ≠ .none → ∃ flash, s.cutBy flash ∧
      done o = .next (((saving (s.setFlash flash) .none 0 []).setFreeCount (s.freeCount + 1)).raise
        .saveDone (.member 1))) ∧
  (let num (n : Nat) : Word := BitVec.ofNat 16 n
   let int (i : Int) : Word := BitVec.ofInt 16 i
   let flag (b : Bool) : Word := if b then 1#16 else 0#16
   (∀ r : ScreenRecord, screenWords r =
      [num r.width, num r.height, num r.rate, (r.source.map fun k => num k.val).getD 0xFFFF#16, num r.originX,
        num r.originY, r.fill.r.setWidth 16, r.fill.g.setWidth 16, r.fill.b.setWidth 16, num r.holdLimit,
        num r.cameraX, num r.cameraY, flag r.guideEnable]) ∧
    (∀ e : SignalEntry, signalEntryWords e =
      [flag e.extended, num (e.ident / 65536), num (e.ident % 65536), num e.startByte, num e.bitOffset,
        num e.length, if e.order = .msbFirst then 0#16 else 1#16, flag e.signed, int e.multiplier, num e.shift,
        int e.offset, num e.staleTimeout]) ∧
    (∀ x : Pattern, patternWords x = num x.steps.length ::
      (x.steps.flatMap fun y => [num y.frequency, if y.waveform = .sine then 0#16 else 1#16, num y.level,
        num y.duration, flag y.gap]) ++
      [num x.loopStart, num x.loopEnd, num x.repeats, num x.priority, flag x.restart]) ∧
    (∀ r : ParkRates, parkWords r =
      num r.entries.length :: (r.entries.flatMap fun e => [num e.threshold, num e.gap]) ++ [num r.continuous]) ∧
    ∀ s : State,
      let holds (i : SaveItem) (kind : Nat) (content : List Byte) : Prop :=
        i.kindCode = kind ∧ s.recordContent i = content
      let x := s.signals.settings
      let m := s.sound.active
      holds (.single .takeover) 1 (bytesOfWords (takeoverWords s.takeover.settings)) ∧
      holds (.single .signals) 2 (bytesOfWords ([num x.interval, if x.polarity = .activeHigh then 0#16 else 1#16,
        if x.source = .line then 0#16 else if x.source = .can then 1#16 else 2#16, num x.bitRate] ++
        mapFields s.signals.map)) ∧
      holds (.single .screenFront) 3 (bytesOfWords (screenWords (s.screen 0).active)) ∧
      holds (.single .guide) 4 (bytesOfWords (guideGeneralWords s.guide.active ++
        s.guide.active.setsInUse.flatMap guideSetWords)) ∧
      holds (.single .palettes) 5 ((s.overlay.screens.get front).palettes.toList.flatMap fun q =>
        q.toList.flatMap fun e => [e.r, e.g, e.b, e.a]) ∧
      (∀ k d, s.overlay.images.get (flashImage k) = some d → holds (.image k) 6 (bytesOfWords [num (120 + k.val),
          num d.width, num d.height, if d.format = .index8 then 0#16 else 1#16, num d.palette.val] ++
        ((List.range d.size).map fun b => s.overlay.store.read storeDefault (d.addr b)) ++
        List.replicate (d.size % 2) 0#8)) ∧
      holds (.single .patterns) 7 (bytesOfWords (patternFields ((List.finRange 16).filterMap fun q =>
        (s.chimes.patterns.get q).map fun x => (q, x)))) ∧
      holds (.single .parkRates) 8 (bytesOfWords (parkWords s.chimes.rates)) ∧
      holds (.single .mix) 9 (bytesOfWords
        (((List.finRange 10).flatMap fun i => (List.finRange 8).map fun o => num ((m.gains.get i).get o)) ++
        [num m.rampStep, num m.duckFactor, setWord m.duckZones])) ∧
      holds (.single .screenRearLeft) 10 (bytesOfWords (screenWords (s.screen 1).active)) ∧
      holds (.single .screenRearRight) 11 (bytesOfWords (screenWords (s.screen 2).active))) ∧
  let bytes (n : Nat) : List Byte :=
    [BitVec.ofNat 8 (n / 16777216), BitVec.ofNat 8 (n / 65536), BitVec.ofNat 8 (n / 256), BitVec.ofNat 8 n]
  (∀ (k : Fin 8), (flashImage k).val = 120 + k.val) ∧
  (∀ n, headerBytes n = [0x46#8, 0x56#8, 0x32#8, 0x31#8, 0#8, 1#8, BitVec.ofNat 8 (n / 256), BitVec.ofNat 8 n]) ∧
  (∀ w : BitVec 32, bytesOf32 w = bytes w.toNat) ∧
  (∀ (kind : Nat) (content : List Byte),
    let body := BitVec.ofNat 8 kind :: bytes content.length ++ content
    recordFrame kind content = body ++ bytes (crc32 body).toNat) ∧
  ∀ bs : List Byte,
    let next (c : BitVec 32) (bit : Bool) : BitVec 32 :=
      if c.getLsbD 0 = bit then c >>> 1 else (c >>> 1) ^^^ 0xEDB88320#32
    crc32 bs = ~~~ (bs.flatMap fun b => (List.range 8).map fun i => b.getLsbD i).foldl next 0xFFFFFFFF#32

/-- The loading of the settings flash: a bad header rejects every single kind and makes the part READY; a good one
gives the count of records, and with the count 0 every kind is ABSENT and the part READY. A record that passes the
end of the region rejects the kinds left; an unknown kind is skipped, as is an earlier or repeated kind or image
number, which joins START_UP_FAULT; a record of the kind expected or of a later one is rejected by a wrong CRC and
by a content that fails the checks of its kind, and the kinds passed over on the way are ABSENT; an accepted GUIDE
record becomes both copies of the guide table. With the last record the walk is DONE, the kinds and images not
handled are ABSENT and the part is READY. A GUIDE record holds the general fields and the sets in use, each within
its ranges, of a valid table. By the model's choice a row whose event cannot occur, as a header load outside HEADER,
changes nothing (log 1), the load position is the place of the kind expected next, 11 past the last kind, and
records left is 0 once the walk is DONE (log 14); START_UP_FAULT names a kind by its place (log 13). The forms of
the contents are the model's (logs 11, 13), with a pad byte of any value after an image (log 32). -/
def Obligations.SettingsLoading : Prop :=
  (∀ (ws : List Word) (g : GuideTable), guideRecord ws = some g ↔
    g.valid = true ∧ g.setCount ≤ 17 ∧ 2 ≤ g.vertices ∧ g.vertices ≤ 12 ∧ g.band1 ≤ 1000 ∧ g.band2 ≤ 1000 ∧
      1 ≤ g.lineWidth ∧ g.lineWidth ≤ 8 ∧
      (∀ k : Fin 17, g.setCount ≤ k.val → g.sets.get k = none) ∧
      (∀ (k : Fin 17) (x : GuideSet), g.sets.get k = some x →
        2 ≤ x.left.length ∧ x.left.length ≤ 12 ∧ x.right.length = x.left.length ∧ x.valid = true) ∧
      ws = guideGeneralWords g ++ g.setsInUse.flatMap guideSetWords) ∧
  (∀ content : List Byte, imageNumber content = match content with
    | h :: l :: _ => some (h.toNat * 256 + l.toNat)
    | _ => none) ∧
  ∀ s : State,
    let bytes (a n : Nat) := s.flash.readBytes flashDefault a n
    let good (n : Nat) := ∃ h l : Byte, bytes 0 8 = [0x46#8, 0x56#8, 0x32#8, 0x31#8, 0#8, 1#8, h, l] ∧
      n = h.toNat * 256 + l.toNat ∧ n ≤ 18
    let at' := s.loader.readAddr
    let len := nat32 (bytes (at' + 1) 4)
    let body := bytes at' (5 + len)
    let crcGood := bytes (at' + 5 + len) 4 = bytesOf32 (crc32 body)
    let left (x : Loader) : Loader := { x with readAddr := at' + 9 + len, recordsLeft := s.loader.recordsLeft - 1 }
    let content := body.drop 5
    let kind := (s.flash.read flashDefault at').toNat
    let imageRepeated := ∃ last n, s.loader.lastImage = some last ∧ imageNumber content = some n ∧ n ≤ last
    let walked (t : State) : Prop := s.keepsBut walkParts t
    let faults (t : State) (place : Nat) : Prop := s.faults t place
    let startsBare (t : State) (result : RecordResult) : Prop :=
      t.walkDone ∧ (∀ k, t.loader.singles.get k = result) ∧
        (∀ k, t.loader.images.get k = if s.loader.images.get k = .notRead then .absent else s.loader.images.get k) ∧
        (∀ k, (t.screen k).started = true) ∧ t.takeover.started = true ∧
        t.takeover.settings = TakeoverSettings.reset ∧ (∀ k : SingleKind, faults t k.place) ∧ walked t
    (s.loader.position ≠ .header → ∀ b, exec (.flashHeaderLoad b) s = .next s) ∧
    (s.loader.position = .header → ∀ b, b = false ∨ (∀ n, ¬ good n) →
      ∃ t : State, exec (.flashHeaderLoad b) s = .next t ∧ startsBare t .rejected) ∧
    (s.loader.position = .header → good 0 →
      ∃ t : State, exec (.flashHeaderLoad true) s = .next t ∧ startsBare t .absent) ∧
    (s.loader.position = .header → ∀ n, good n → 1 ≤ n →
      exec (.flashHeaderLoad true) s = .next (s.setLoader { s.loader with
        recordsLeft := n, readAddr := 8, position := .expecting 0 })) ∧
    ∀ place, s.loader.position = .expecting place →
      (524288 < at' + 9 + len →
        ∃ t : State, exec .flashRecordLoad s = .next t ∧ t.walkDone ∧
          walked t ∧ (∀ k : SingleKind, place ≤ k.place → faults t k.place) ∧
          ∀ k : SingleKind, t.loader.singles.get k.index =
            if place ≤ k.place then .rejected else s.loader.singles.get k.index) ∧
      (at' + 9 + len ≤ 524288 → 1 < s.loader.recordsLeft →
        (kind = 0 ∨ 11 < kind →
          exec .flashRecordLoad s = .next (s.setLoader (left s.loader))) ∧
        (∀ k : SingleKind, kind = k.place + 1 → k.place < place → ∃ m : Fin 16, m.val = k.place ∧
          exec .flashRecordLoad s = .next ((s.setLoader (left s.loader)).raise .startUpFault (.member m))) ∧
        (kind = 6 → 5 < place ∨ imageRepeated →
          exec .flashRecordLoad s = .next ((s.setLoader (left s.loader)).raise .startUpFault (.member 5))) ∧
        (kind = 6 → place ≤ 5 → ¬ imageRepeated → ¬ crcGood ∨ ¬ s.acceptsImage content →
          ∃ t : State, exec .flashRecordLoad s = .next t ∧ walked t ∧ t.loader.position = .expecting 5 ∧
            t.loader.recordsLeft = s.loader.recordsLeft - 1 ∧ faults t 5 ∧
            (∀ k' : SingleKind, t.loader.singles.get k'.index =
              if place ≤ k'.place ∧ k'.place < 5 then .absent else s.loader.singles.get k'.index) ∧
            (∀ n, imageNumber content = some n → 120 ≤ n → n ≤ 127 → t.loader.lastImage = some n ∧
              ∀ j, t.loader.images.get j =
                if 120 + j.val = n then .rejected else s.loader.images.get j) ∧
            ((∀ n, imageNumber content = some n → n < 120 ∨ 127 < n) →
              t.loader.lastImage = s.loader.lastImage ∧ t.loader.images = s.loader.images) ∧
            t.overlay = s.overlay) ∧
        (∀ k : SingleKind, kind = k.place + 1 → place ≤ k.place → ¬ crcGood ∨ ¬ s.accepts content k →
          ∃ t : State, exec .flashRecordLoad s = .next t ∧ walked t ∧
            t.loader.position = .expecting (k.place + 1) ∧ t.loader.recordsLeft = s.loader.recordsLeft - 1 ∧
            t.loader.lastImage = s.loader.lastImage ∧
            (∀ k' : SingleKind, t.loader.singles.get k'.index =
              if k' = k then .rejected else if place ≤ k'.place ∧ k'.place < k.place then .absent
              else s.loader.singles.get k'.index) ∧
            (∀ j, t.loader.images.get j =
              if place ≤ 5 ∧ 5 < k.place ∧ s.loader.images.get j = .notRead then .absent
              else s.loader.images.get j) ∧
            (place ≤ 0 → t.takeover.started = true ∧ t.takeover.settings = TakeoverSettings.reset) ∧
            (place ≤ 2 → 2 ≤ k.place → (t.screen 0).started = true) ∧
            (place ≤ 9 → 9 ≤ k.place → (t.screen 1).started = true) ∧
            (k = .screenRearRight → (t.screen 2).started = true) ∧
            ∀ k' : SingleKind, place ≤ k'.place → k'.place ≤ k.place → faults t k'.place) ∧
        (∀ (ws : List Word) (g : GuideTable), kind = 4 → place = 3 → crcGood →
          content = bytesOfWords ws → guideRecord ws = some g →
          exec .flashRecordLoad s = .next ((s.setGuide { s.guide with active := g, shadow := g }).setLoader
            { left s.loader with
              position := .expecting 4
              singles := s.loader.singles.set SingleKind.guide.index .accepted }))) ∧
      (at' + 9 + len ≤ 524288 → s.loader.recordsLeft ≤ 1 →
        ∃ t : State, exec .flashRecordLoad s = .next t ∧ t.walkDone ∧ t.loader.readAddr = at' + 9 + len ∧
          (∀ k : SingleKind, kind ≠ k.place + 1 → t.loader.singles.get k.index =
            if place ≤ k.place then .absent else s.loader.singles.get k.index) ∧
          (∀ k : SingleKind, kind = k.place + 1 → k.place < place →
            t.loader.singles.get k.index = s.loader.singles.get k.index) ∧
          (∀ k : SingleKind, kind = k.place + 1 → place ≤ k.place → ¬ crcGood ∨ ¬ s.accepts content k →
            t.loader.singles.get k.index = .rejected ∧ faults t k.place ∧ walked t) ∧
          (kind = 6 → place ≤ 5 → ¬ imageRepeated → ¬ crcGood ∨ ¬ s.acceptsImage content →
            faults t 5 ∧ walked t ∧
            ∀ j : Fin 8, imageNumber content = some (120 + j.val) → t.loader.images.get j = .rejected) ∧
          (∀ (ws : List Word) (g : GuideTable), kind = 4 → place ≤ 3 → crcGood →
            content = bytesOfWords ws → guideRecord ws = some g →
            t.loader.singles.get SingleKind.guide.index = .accepted ∧ t.guide.active = g ∧ t.guide.shadow = g) ∧
          (∀ j, t.loader.images.get j ≠ .notRead) ∧
          (kind = 0 ∨ 11 < kind → walked t) ∧
          ∀ k : SingleKind, place ≤ k.place → kind ≠ k.place + 1 → faults t k.place)

/-- The settings records that are accepted, each at its place in the walk with records left behind it: the takeover
settings, with which the Takeover Controller starts, its stream 7 opened and a reverse request that is engaged
claimed; the signal settings and map, every record at NEVER; a screen record, in both copies, with its assembler
started, but rejected when another screen names its source; the palettes, in the shadow copy and the three active
ones; the patterns held; the park rates, with the park tone judged; the MIX group, in both copies, its gains clamped;
an image, defined on the lowest free pages and loaded with its bytes. The kind becomes ACCEPTED and the load position
moves past it, but stays at IMAGE after an image. An accepted record of any kind at its place or behind kinds passed
over, with records left or as the last one: its table, the kinds passed over and those left behind the last record
ABSENT with their faults, the images with them, and what the walk leaves as it was. The codings and the positions are
the model's (logs 11, 13, 14), as is a pattern held twice, whose later content stands (log 13), the pad byte of any
value after an image (log 32), the stall timeout that the opened record of stream 7 keeps (log 35), and timers held in
sample periods (log 2). -/
def Obligations.SettingsRecordsApplied : Prop :=
  (∀ (s : State) (place kind : Nat) (content : List Byte),
    s.loader.position = .expecting place → 1 < s.loader.recordsLeft → kind ≤ 11 →
    let body := BitVec.ofNat 8 kind :: bytesOf32 (BitVec.ofNat 32 content.length) ++ content
    let next := s.loader.readAddr + 9 + content.length
    next ≤ 524288 →
    s.flash.readBytes flashDefault s.loader.readAddr (9 + content.length) = body ++ bytesOf32 (crc32 body) →
    let moved (place : Nat) : Loader := { s.loader with
      readAddr := next, recordsLeft := s.loader.recordsLeft - 1, position := .expecting place }
    let accepted (k : SingleKind) : Loader := { moved (k.place + 1) with
      singles := s.loader.singles.set k.index .accepted }
    let answers (t : State) (l : Loader) : Prop := exec .flashRecordLoad s = .next (t.setLoader l)
    (∀ (ws : List Word) (x : TakeoverSettings), place = 0 → kind = 1 → content = bytesOfWords ws →
      takeoverOf ws = .ok x →
      let opened : StreamRec := { s.cameraOpened x with
        overruns := 0, underruns := 0, incompletes := 0, stalls := 0, strays := 0 }
      let started : TakeoverUnit := { s.takeover with settings := x, started := true }
      (s.signals.request = .released →
        answers ((s.setTakeover started).setStream camera opened) (accepted .takeover)) ∧
      (s.signals.request = .engaged → s.takeover.state = .normal → s.frontSource ≠ some camera →
        ∃ t : State, answers t (accepted .takeover) ∧ t.stream camera = opened ∧
          t.takeover = { started with
            reverse := true, reverseChanged := true, state := .switchingIn
            entryTimer := .running (48 * x.entryDeadline) } ∧
          (t.screen front).timing = .locked ∧
          s.keepsBut [.loader, .takeover, .streams, .screens, .chimes, .interp] t)) ∧
    (∀ (i po so br : Word) (x : SignalSettings) (map : Tab (Option SignalEntry) 7), place = 1 → kind = 2 →
      signalSettingsOf i po so br = some x →
      (∀ y e, map.get y = some e → signalEntryOf (signalEntryWords e) = some e) →
      content = bytesOfWords ([i, po, so, br] ++ mapFields map) →
      ∃ t : State, answers t (accepted .signals) ∧ t.signals.settings = x ∧ t.signals.map = map ∧
        t.signals.nearest = ⟨1000, false⟩ ∧
        (∀ y, t.signal y =
          { value := restValue y, state := .never, timer := .stopped, clamped := false,
            changed := (s.signal y).changed || (s.signal y).state != .never || (s.signal y).value != restValue y }) ∧
        t.signals.filter = { s.signals.filter with
          timer := if s.signals.settings.interval = x.interval then s.signals.filter.timer
            else .running (48 * x.interval)
          agree := if s.signals.settings.polarity = x.polarity then s.signals.filter.agree else 0 } ∧
        s.keepsBut [.loader, .signals, .takeover, .streams, .screens, .chimes, .interp] t) ∧
    (∀ (k : SingleKind) (sc : ScreenId) (r : ScreenRecord), place = k.place → kind = k.place + 1 →
      k = .screenFront ∧ sc = front ∨ k = .screenRearLeft ∧ sc = 1 ∨ k = .screenRearRight ∧ sc = 2 →
      screenOf (screenWords r) = some r → content = bytesOfWords (screenWords r) →
      let record := if sc = front then r else { r with cameraX := 0, cameraY := 0, guideEnable := false }
      let elsewhere := ∃ sc' j, sc' ≠ sc ∧ r.source = some j ∧ s.names sc' j
      (¬ elsewhere → answers (s.setScreen sc { s.screen sc with
        active := record, shadow := record, started := true }) (accepted k)) ∧
      (elsewhere → ∃ t : State, answers t { accepted k with singles := s.loader.singles.set k.index .rejected } ∧
        t.screens = (s.setScreen sc { s.screen sc with started := true }).screens ∧
        s.keepsBut [.loader, .screens, .interp] t)) ∧
    (place = 4 → kind = 5 → content.length = 4096 →
      ∃ p : Palettes,
        (∀ (q : Fin 4) (i : Fin 256), let a := 1024 * q.val + 4 * i.val
          (p.get q).get i =
            ⟨content.getD a 0, content.getD (a + 1) 0, content.getD (a + 2) 0, content.getD (a + 3) 0⟩) ∧
        answers (s.setOverlay { s.overlay with
          shadowPalettes := p, screens := s.overlay.screens.map fun sc => { sc with palettes := p } })
          (accepted .palettes)) ∧
    (∀ held : List (Fin 16 × Pattern), place = 5 → kind = 7 →
      (∀ x ∈ held, patternGood x.1 x.2) → content = bytesOfWords (patternFields held) →
      ∃ patterns : Tab (Option Pattern) 16,
        (∀ q, patterns.get q = match held.reverse.find? fun x => x.1 == q with
          | some x => some x.2
          | none => s.chimes.patterns.get q) ∧
        answers (s.setChimes { s.chimes with patterns := patterns }) { accepted .patterns with
          images := s.loader.images.map fun r => if r = .notRead then .absent else r }) ∧
    (∀ rates : ParkRates, place = 7 → kind = 8 → ratesGood rates → content = bytesOfWords (parkWords rates) →
      ∃ t : State, answers t (accepted .parkRates) ∧ t.chimes.rates = rates ∧
        t.chimes.patterns = s.chimes.patterns ∧
        t.chimes.eligible = (s.takeover.reverse && s.signals.nearest.fresh &&
          rates.entries.any fun e => decide (s.signals.nearest.value < e.threshold)) ∧
        s.keepsBut [.loader, .chimes, .interp] t) ∧
    (∀ (gains : List Word) (ramp duck zones : Word), place = 8 → kind = 9 → gains.length = 80 →
      1 ≤ ramp.toNat → ramp.toNat ≤ 32768 → duck.toNat ≤ 32768 → zones.toNat < 8 →
      content = bytesOfWords (gains ++ [ramp, duck, zones]) →
      ∃ m : MixGroup,
        (∀ i o, (m.gains.get i).get o = min (gains.getD (8 * i.val + o.val) 0).toNat 32768) ∧
        m.rampStep = ramp.toNat ∧ m.duckFactor = duck.toNat ∧
        (∀ z, m.duckZones.get z = zones.getLsbD z.val) ∧
        answers (s.setSound { s.sound with active := m, shadow := m }) (accepted .mix)) ∧
    ∀ (j : Fin 8) (x : ImageShape) (bytes : List Byte), place = 5 → kind = 6 → imageContentOf content j x bytes →
      (∀ m, s.loader.lastImage = some m → m < 120 + j.val) →
      let taken : Loader := { moved 5 with lastImage := some (120 + j.val) }
      (¬ s.acceptsImage content → ∃ t : State,
        answers t { taken with images := s.loader.images.set j .rejected } ∧ s.keepsBut [.loader, .interp] t) ∧
      (s.acceptsImage content → s.overlay.images.get (flashImage j) = none → memoryLaw s → pageLaw s →
        ∃ t : State, answers t { taken with images := s.loader.images.set j .accepted } ∧
          s.imageLoaded t j x bytes ∧ s.keepsBut [.loader, .overlay] t)) ∧
  ∀ (s : State) (place : Nat) (content : List Byte), s.loader.position = .expecting place →
    let left := s.loader.recordsLeft
    let next := s.loader.readAddr + 9 + content.length
    next ≤ 524288 →
    let read (kind : Nat) : Prop :=
      s.flash.readBytes flashDefault s.loader.readAddr (9 + content.length) = recordFrame kind content
    let walks (t : State) (here upto : Nat) : Prop :=
      t.loader.readAddr = next ∧
      (∀ k : SingleKind, k.place < place → t.loader.singles.get k.index = s.loader.singles.get k.index) ∧
      (∀ k : SingleKind, place ≤ k.place → k.place < here →
        t.loader.singles.get k.index = .absent ∧ s.faults t k.place) ∧
      (1 < left → t.loader.position = .expecting upto ∧ t.loader.recordsLeft = left - 1 ∧
        t.interp.startUp = s.interp.startUp ∧
        ∀ k : SingleKind, upto ≤ k.place → t.loader.singles.get k.index = s.loader.singles.get k.index) ∧
      (left ≤ 1 → t.walkDone ∧
        ∀ k : SingleKind, upto ≤ k.place → t.loader.singles.get k.index = .absent ∧ s.faults t k.place)
    (∀ k : SingleKind, place ≤ k.place → read (k.place + 1) → s.accepts content k →
      ∃ t : State, exec .flashRecordLoad s = .next t ∧ t.loads content k ∧
        t.loader.singles.get k.index = .accepted ∧ walks t k.place (k.place + 1) ∧
        (∀ j, t.loader.images.get j =
          if (place ≤ 5 ∧ 5 < k.place ∨ left ≤ 1) ∧ s.loader.images.get j = .notRead then .absent
          else s.loader.images.get j) ∧
        s.keepsBut (walkParts ++ [.signals, .guide, .overlay, .sound]) t ∧
        (k ≠ .signals → t.signals = s.signals) ∧ (k ≠ .guide → t.guide = s.guide) ∧
        (k ≠ .palettes → t.overlay = s.overlay) ∧ (k ≠ .mix → t.sound = s.sound)) ∧
    ∀ (j : Fin 8) (x : ImageShape) (bytes : List Byte), place ≤ 5 → read 6 → imageContentOf content j x bytes →
      s.acceptsImage content → (∀ m, s.loader.lastImage = some m → m < 120 + j.val) →
      s.overlay.images.get (flashImage j) = none → memoryLaw s → pageLaw s →
      ∃ t : State, exec .flashRecordLoad s = .next t ∧ s.imageLoaded t j x bytes ∧ walks t 5 5 ∧
        t.loader.lastImage = some (120 + j.val) ∧
        (∀ i, t.loader.images.get i = if i = j then .accepted
          else if left ≤ 1 ∧ s.loader.images.get i = .notRead then .absent else s.loader.images.get i) ∧
        s.keepsBut (.overlay :: walkParts) t

/-! ### Resets -/

/-- The reset line: every part at its reset value, but for the settings flash, where a save under way is cut and
leaves no good header, or the records before it with the erased area or a wrong CRC behind them. RESET: BUSY during
LOADING, BAD_VALUE for an unknown kind. FULL: REVERSE_HELD while REVERSE is claimed; otherwise OK, and the reset
values but for the cabin link, the camera link lock and the flash, where it cuts a save too. MEDIA: OK, and its
effects on streams, sound, overlays, chimes and pending items, each in full: streams and FIFOs that are CLOSED stay
as they are, and so do the images, the pages, the palettes, the mix, the gains, the clip flags, the counters and the
park tone's eligibility; the park tone plays on, resumes or starts. That a RESET of no kind is refused by either of
its rows is the model's choice (log 3), as are the counter of the free values and what an erase that is cut leaves
(log 7), the mixer's readings before the first block boundary (log 15), that FULL keeps a waiting reply (log 20) and
the last frame of the back channel, and clears what the other ports last carried (log 25), and records left 0 before
a header has been read (log 14). -/
def Obligations.Resets : Prop :=
  (∀ s : State,
    (s.loader.saveStep = .none → exec .resetLine s = .next
      (((State.reset.setFlash s.flash).setFreeCount s.freeCount).setPending s.pending)) ∧
    (s.loader.saveStep ≠ .none → memoryLaw s → ∃ flash, s.cutBy flash ∧ exec .resetLine s = .next
      (((State.reset.setFlash flash).setFreeCount (s.freeCount + 1)).setPending s.pending))) ∧
  (∀ (s : State) (p : ControlPacket) (w : Word), s.link.waiting = none → s.interp.queue.head? = some p →
    p.code = 41 → p.params = bytesOfWords [w] →
    let refused (i : Instr) (e : Result) := exec i s = .next ((s.popCommand.noteRefusal p e).replied p e [])
    (s.interp.startUp = .loading →
      (w.toNat ≠ 1 → refused .resetFull .busy) ∧ (w.toNat ≠ 0 → refused .resetMedia .busy)) ∧
    (s.interp.startUp = .ready → 1 < w.toNat →
      refused .resetFull .badValue ∧ refused .resetMedia .badValue) ∧
    (s.interp.startUp = .ready → w.toNat = 0 → s.takeover.reverse = true → refused .resetFull .reverseHeld)) ∧
  (∀ (s : State) (p : ControlPacket), s.executes p 41 [0#16] → s.takeover.reverse = false →
    let after (flash : Memory) (count : Nat) : State := { State.reset with
      link := (s.replied p .ok []).link
      cameraLocked := s.cameraLocked
      flash := flash
      ports := { Ports.reset with backFrame := s.ports.backFrame }
      freeCount := count
      pending := s.pending }
    (s.loader.saveStep = .none → exec .resetFull s = .next (after s.flash s.freeCount)) ∧
    (s.loader.saveStep ≠ .none → memoryLaw s → ∃ flash, s.cutBy flash ∧
      exec .resetFull s = .next (after flash (s.freeCount + 1)))) ∧
  ∀ (s : State) (p : ControlPacket), s.executes p 41 [1#16] →
    ∃ t : State, exec .resetMedia s = .next (t.replied p .ok []) ∧
      (∀ k, t.stream k = if k = camera ∨ (s.stream k).state = .closed then s.stream k
        else { s.stream k with state := .closed, queue := [], assembly := none, stallTimer := .stopped }) ∧
      t.sound = { s.sound with fifos := t.sound.fifos } ∧
      (∀ k, t.fifo k = if (s.fifo k).state = .closed then s.fifo k
        else { s.fifo k with state := .closed, frames := [], paused := false }) ∧
      t.overlay = { s.overlay with objects := t.overlay.objects, screens := t.overlay.screens } ∧
      (∀ e o, t.overlay.objects.get e = some o ↔ s.overlay.objects.get e = some o ∧
        o.screen = front ∧ o.plane = .notice) ∧
      (∀ k, t.overlay.screens.get k = { s.overlay.screens.get k with
        list := if k = front then (s.overlay.screens.get k).list.filter fun c => c.fields.plane == .notice else [] }) ∧
      (let u := s.chimes
       let tone := u.queue.find? fun r => r.pattern == 15
       let kept (v : Fin 2) : Option Context := (u.voices.get v).filter fun c => c.pattern == 15
       t.chimes = { u with voices := t.chimes.voices, queue := [], stack := [], starts := t.chimes.starts } ∧
       t.chimes.voices.get 1 = kept 1 ∧
       (tone = none → t.chimes.starts = u.starts ∧ t.chimes.voices.get 0 =
         match u.stack.find? fun c => c.pattern == 15 with
         | some c => some c
         | none => kept 0) ∧
       ∀ r pat, tone = some r → u.patterns.get 15 = some pat →
         t.chimes.starts = min (u.starts + 1) 65535 ∧ t.chimes.voices.get 0 =
           startContext u.rates s.signals.nearest.value pat 15 r.repeats (min (u.starts + 1) 65535)) ∧
      (∀ g, g = .screenRearLeft ∨ g = .screenRearRight ∨ g = .objects ∨ g = .palettes → t.item g = none ∧
        t.tables.outcomes.get g.index = (match s.item g with
          | some i => ⟨.droppedReset, some i.lastTag, none⟩
          | none => s.tables.outcomes.get g.index)) ∧
      (∀ g, g = .screenFront ∨ g = .guide ∨ g = .mix →
        t.item g = s.item g ∧ t.tables.outcomes.get g.index = s.tables.outcomes.get g.index) ∧
      s.popCommand.keepsBut [.streams, .sound, .overlay, .chimes, .tables] t

/-! ### Laws that every step keeps -/

/-- The state after the reset line satisfies every law. -/
def Obligations.LawsAtReset : Prop :=
  let s := State.reset
  lineMemoryLaw s ∧ memoryLaw s ∧ queueLaw s ∧ sourceLaw s ∧ takeoverLaw s ∧ timingLaw s ∧ parkingLaw s ∧
    pageLaw s ∧ imageLaw s ∧ attentionLaw s ∧ gainLaw s ∧ chimeLaw s ∧ itemLaw s

/-- A step keeps the law of line memory: at most 128 slots reserved, no queue above its capacity. -/
def Obligations.LineMemoryKept : Prop :=
  ∀ s t : State, lineMemoryLaw s → step s = .next t → lineMemoryLaw t

/-- A step keeps the canonical form of the image store and of the settings flash. -/
def Obligations.MemoryFormKept : Prop :=
  ∀ s t : State, memoryLaw s → step s = .next t → memoryLaw t

/-- A step keeps every page in one place, the sizes of page lists, and every image that an overlay names DEFINED. -/
def Obligations.PagesAndImagesKept : Prop :=
  ∀ s t : State, pageLaw s → imageLaw s → step s = .next t → pageLaw t ∧ imageLaw t

/-- A step keeps every queue within its place, every pending cause enabled, and every pending item well formed. -/
def Obligations.QueuesCausesItemsKept : Prop :=
  ∀ s t : State, step s = .next t →
    (queueLaw s → queueLaw t) ∧ (attentionLaw s → attentionLaw t) ∧ (itemLaw s → itemLaw t)

/-- A step keeps each stream named as normal source by at most one screen, and stream 7 by none. -/
def Obligations.NormalSourcesKept : Prop :=
  ∀ s t : State, sourceLaw s → step s = .next t → sourceLaw t

/-- A step keeps the laws of the takeover record and of FRONT's timing. -/
def Obligations.TakeoverAndTimingKept : Prop :=
  ∀ s t : State, takeoverLaw s → timingLaw s → step s = .next t → takeoverLaw t ∧ timingLaw t

/-- A step keeps FRONT's normal source parked in SWITCHING_IN, SHOWING and LINGER, and no other stream parked. -/
def Obligations.ParkingKept : Prop :=
  ∀ s t : State, parkingLaw s → step s = .next t → parkingLaw t

/-- A step keeps every gain, duck factor and attenuation at most unity. -/
def Obligations.GainsKept : Prop :=
  ∀ s t : State, gainLaw s → step s = .next t → gainLaw t

/-- A step keeps each pattern present at most once and WRITTEN, and the pending queue in order of priority. -/
def Obligations.ChimesKept : Prop :=
  ∀ s t : State, chimeLaw s → step s = .next t → chimeLaw t
end

