-- ==== Sys2Proof/Laws/Checked.lean ====
section
/-! SUPPORT. Reading a command's checks: what each check answers when it passes and when it fails. -/

namespace Sys2Proof.Machine

open Sys2Proof

variable {α β : Type}

@[simp] theorem checked_ok_bind (a : α) (f : α → Checked β) : ((Except.ok a : Checked α) >>= f) = f a := rfl

@[simp] theorem checked_error_bind (r : Result) (f : α → Checked β) :
    ((Except.error r : Checked α) >>= f) = .error r := rfl

@[simp] theorem checked_ok_map (a : α) (f : α → β) : (f <$> (Except.ok a : Checked α)) = .ok (f a) := rfl

@[simp] theorem checked_error_map (r : Result) (f : α → β) :
    (f <$> (Except.error r : Checked α)) = .error r := rfl

@[simp] theorem checked_pure (a : α) : (pure a : Checked α) = .ok a := rfl

@[simp] theorem ensure_true (r : Result) : ensure true r = .ok () := rfl

@[simp] theorem ensure_false (r : Result) : ensure false r = .error r := rfl

@[simp] theorem orFail_some (a : α) (r : Result) : orFail (some a) r = .ok a := rfl

@[simp] theorem orFail_none (r : Result) : orFail (none : Option α) r = .error r := rfl

theorem ensure_pass {ok : Bool} (r : Result) (h : ok = true) : ensure ok r = .ok () := by simp [h]

theorem ensure_fail {ok : Bool} (r : Result) (h : ok = false) : ensure ok r = .error r := by simp [h]

/-- A field that numbers one of `n` things. -/
theorem numberOf_lt {n : Nat} {w : Word} (h : w.toNat < n) : numberOf n w = some ⟨w.toNat, h⟩ := by
  simp [numberOf, h]

theorem numberOf_ge {n : Nat} {w : Word} (h : n ≤ w.toNat) : numberOf n w = none := by
  simp [numberOf, Nat.not_lt.mpr h]

theorem numberOf_val {n : Nat} {w : Word} {k : Fin n} (h : k.val = w.toNat) : numberOf n w = some k := by
  have hk : w.toNat < n := h ▸ k.isLt
  rw [numberOf_lt hk]
  exact congrArg some (Fin.ext h.symm)

theorem flagOf_set {w : Word} (h : w.toNat = 1) : flagOf w = some true := by simp [flagOf, h]

theorem flagOf_clear {w : Word} (h : w.toNat = 0) : flagOf w = some false := by simp [flagOf, h]

theorem within_iff {lo hi n : Nat} : within lo hi n = true ↔ lo ≤ n ∧ n ≤ hi := by
  simp [within]

theorem withinInt_iff {lo hi i : Int} : withinInt lo hi i = true ↔ lo ≤ i ∧ i ≤ hi := by
  simp [withinInt]

end Sys2Proof.Machine
end

