-- ==== Sys2Proof/Laws/State.lean ====
section
/-! SUPPORT. The updates of the parts of the state: one lemma for each field of each update, and the last of
two updates of one part stands. -/

namespace Sys2Proof.Machine

open Sys2Proof

@[simp] theorem setLink_link (s : State) (x : LinkUnit) : (s.setLink x).link = x := rfl
@[simp] theorem setLink_cameraLocked (s : State) (x : LinkUnit) : (s.setLink x).cameraLocked = s.cameraLocked := rfl
@[simp] theorem setLink_streams (s : State) (x : LinkUnit) : (s.setLink x).streams = s.streams := rfl
@[simp] theorem setLink_screens (s : State) (x : LinkUnit) : (s.setLink x).screens = s.screens := rfl
@[simp] theorem setLink_signals (s : State) (x : LinkUnit) : (s.setLink x).signals = s.signals := rfl
@[simp] theorem setLink_takeover (s : State) (x : LinkUnit) : (s.setLink x).takeover = s.takeover := rfl
@[simp] theorem setLink_guide (s : State) (x : LinkUnit) : (s.setLink x).guide = s.guide := rfl
@[simp] theorem setLink_overlay (s : State) (x : LinkUnit) : (s.setLink x).overlay = s.overlay := rfl
@[simp] theorem setLink_sound (s : State) (x : LinkUnit) : (s.setLink x).sound = s.sound := rfl
@[simp] theorem setLink_chimes (s : State) (x : LinkUnit) : (s.setLink x).chimes = s.chimes := rfl
@[simp] theorem setLink_tables (s : State) (x : LinkUnit) : (s.setLink x).tables = s.tables := rfl
@[simp] theorem setLink_interp (s : State) (x : LinkUnit) : (s.setLink x).interp = s.interp := rfl
@[simp] theorem setLink_loader (s : State) (x : LinkUnit) : (s.setLink x).loader = s.loader := rfl
@[simp] theorem setLink_flash (s : State) (x : LinkUnit) : (s.setLink x).flash = s.flash := rfl
@[simp] theorem setLink_ports (s : State) (x : LinkUnit) : (s.setLink x).ports = s.ports := rfl
@[simp] theorem setLink_freeCount (s : State) (x : LinkUnit) : (s.setLink x).freeCount = s.freeCount := rfl
@[simp] theorem setLink_pending (s : State) (x : LinkUnit) : (s.setLink x).pending = s.pending := rfl
@[simp] theorem setLink_setLink (s : State) (x y : LinkUnit) :
    (s.setLink x).setLink y = s.setLink y := rfl
@[simp] theorem setLink_self (s : State) : s.setLink s.link = s := rfl

@[simp] theorem setCameraLocked_link (s : State) (x : Bool) : (s.setCameraLocked x).link = s.link := rfl
@[simp] theorem setCameraLocked_cameraLocked (s : State) (x : Bool) : (s.setCameraLocked x).cameraLocked = x := rfl
@[simp] theorem setCameraLocked_streams (s : State) (x : Bool) : (s.setCameraLocked x).streams = s.streams := rfl
@[simp] theorem setCameraLocked_screens (s : State) (x : Bool) : (s.setCameraLocked x).screens = s.screens := rfl
@[simp] theorem setCameraLocked_signals (s : State) (x : Bool) : (s.setCameraLocked x).signals = s.signals := rfl
@[simp] theorem setCameraLocked_takeover (s : State) (x : Bool) : (s.setCameraLocked x).takeover = s.takeover := rfl
@[simp] theorem setCameraLocked_guide (s : State) (x : Bool) : (s.setCameraLocked x).guide = s.guide := rfl
@[simp] theorem setCameraLocked_overlay (s : State) (x : Bool) : (s.setCameraLocked x).overlay = s.overlay := rfl
@[simp] theorem setCameraLocked_sound (s : State) (x : Bool) : (s.setCameraLocked x).sound = s.sound := rfl
@[simp] theorem setCameraLocked_chimes (s : State) (x : Bool) : (s.setCameraLocked x).chimes = s.chimes := rfl
@[simp] theorem setCameraLocked_tables (s : State) (x : Bool) : (s.setCameraLocked x).tables = s.tables := rfl
@[simp] theorem setCameraLocked_interp (s : State) (x : Bool) : (s.setCameraLocked x).interp = s.interp := rfl
@[simp] theorem setCameraLocked_loader (s : State) (x : Bool) : (s.setCameraLocked x).loader = s.loader := rfl
@[simp] theorem setCameraLocked_flash (s : State) (x : Bool) : (s.setCameraLocked x).flash = s.flash := rfl
@[simp] theorem setCameraLocked_ports (s : State) (x : Bool) : (s.setCameraLocked x).ports = s.ports := rfl
@[simp] theorem setCameraLocked_freeCount (s : State) (x : Bool) : (s.setCameraLocked x).freeCount = s.freeCount := rfl
@[simp] theorem setCameraLocked_pending (s : State) (x : Bool) : (s.setCameraLocked x).pending = s.pending := rfl
@[simp] theorem setCameraLocked_setCameraLocked (s : State) (x y : Bool) :
    (s.setCameraLocked x).setCameraLocked y = s.setCameraLocked y := rfl
@[simp] theorem setCameraLocked_self (s : State) : s.setCameraLocked s.cameraLocked = s := rfl

@[simp] theorem setStreams_link (s : State) (x : Tab StreamRec 8) : (s.setStreams x).link = s.link := rfl
@[simp] theorem setStreams_cameraLocked (s : State) (x : Tab StreamRec 8) : (s.setStreams x).cameraLocked = s.cameraLocked := rfl
@[simp] theorem setStreams_streams (s : State) (x : Tab StreamRec 8) : (s.setStreams x).streams = x := rfl
@[simp] theorem setStreams_screens (s : State) (x : Tab StreamRec 8) : (s.setStreams x).screens = s.screens := rfl
@[simp] theorem setStreams_signals (s : State) (x : Tab StreamRec 8) : (s.setStreams x).signals = s.signals := rfl
@[simp] theorem setStreams_takeover (s : State) (x : Tab StreamRec 8) : (s.setStreams x).takeover = s.takeover := rfl
@[simp] theorem setStreams_guide (s : State) (x : Tab StreamRec 8) : (s.setStreams x).guide = s.guide := rfl
@[simp] theorem setStreams_overlay (s : State) (x : Tab StreamRec 8) : (s.setStreams x).overlay = s.overlay := rfl
@[simp] theorem setStreams_sound (s : State) (x : Tab StreamRec 8) : (s.setStreams x).sound = s.sound := rfl
@[simp] theorem setStreams_chimes (s : State) (x : Tab StreamRec 8) : (s.setStreams x).chimes = s.chimes := rfl
@[simp] theorem setStreams_tables (s : State) (x : Tab StreamRec 8) : (s.setStreams x).tables = s.tables := rfl
@[simp] theorem setStreams_interp (s : State) (x : Tab StreamRec 8) : (s.setStreams x).interp = s.interp := rfl
@[simp] theorem setStreams_loader (s : State) (x : Tab StreamRec 8) : (s.setStreams x).loader = s.loader := rfl
@[simp] theorem setStreams_flash (s : State) (x : Tab StreamRec 8) : (s.setStreams x).flash = s.flash := rfl
@[simp] theorem setStreams_ports (s : State) (x : Tab StreamRec 8) : (s.setStreams x).ports = s.ports := rfl
@[simp] theorem setStreams_freeCount (s : State) (x : Tab StreamRec 8) : (s.setStreams x).freeCount = s.freeCount := rfl
@[simp] theorem setStreams_pending (s : State) (x : Tab StreamRec 8) : (s.setStreams x).pending = s.pending := rfl
@[simp] theorem setStreams_setStreams (s : State) (x y : Tab StreamRec 8) :
    (s.setStreams x).setStreams y = s.setStreams y := rfl
@[simp] theorem setStreams_self (s : State) : s.setStreams s.streams = s := rfl

@[simp] theorem setScreens_link (s : State) (x : Tab ScreenUnit 3) : (s.setScreens x).link = s.link := rfl
@[simp] theorem setScreens_cameraLocked (s : State) (x : Tab ScreenUnit 3) : (s.setScreens x).cameraLocked = s.cameraLocked := rfl
@[simp] theorem setScreens_streams (s : State) (x : Tab ScreenUnit 3) : (s.setScreens x).streams = s.streams := rfl
@[simp] theorem setScreens_screens (s : State) (x : Tab ScreenUnit 3) : (s.setScreens x).screens = x := rfl
@[simp] theorem setScreens_signals (s : State) (x : Tab ScreenUnit 3) : (s.setScreens x).signals = s.signals := rfl
@[simp] theorem setScreens_takeover (s : State) (x : Tab ScreenUnit 3) : (s.setScreens x).takeover = s.takeover := rfl
@[simp] theorem setScreens_guide (s : State) (x : Tab ScreenUnit 3) : (s.setScreens x).guide = s.guide := rfl
@[simp] theorem setScreens_overlay (s : State) (x : Tab ScreenUnit 3) : (s.setScreens x).overlay = s.overlay := rfl
@[simp] theorem setScreens_sound (s : State) (x : Tab ScreenUnit 3) : (s.setScreens x).sound = s.sound := rfl
@[simp] theorem setScreens_chimes (s : State) (x : Tab ScreenUnit 3) : (s.setScreens x).chimes = s.chimes := rfl
@[simp] theorem setScreens_tables (s : State) (x : Tab ScreenUnit 3) : (s.setScreens x).tables = s.tables := rfl
@[simp] theorem setScreens_interp (s : State) (x : Tab ScreenUnit 3) : (s.setScreens x).interp = s.interp := rfl
@[simp] theorem setScreens_loader (s : State) (x : Tab ScreenUnit 3) : (s.setScreens x).loader = s.loader := rfl
@[simp] theorem setScreens_flash (s : State) (x : Tab ScreenUnit 3) : (s.setScreens x).flash = s.flash := rfl
@[simp] theorem setScreens_ports (s : State) (x : Tab ScreenUnit 3) : (s.setScreens x).ports = s.ports := rfl
@[simp] theorem setScreens_freeCount (s : State) (x : Tab ScreenUnit 3) : (s.setScreens x).freeCount = s.freeCount := rfl
@[simp] theorem setScreens_pending (s : State) (x : Tab ScreenUnit 3) : (s.setScreens x).pending = s.pending := rfl
@[simp] theorem setScreens_setScreens (s : State) (x y : Tab ScreenUnit 3) :
    (s.setScreens x).setScreens y = s.setScreens y := rfl
@[simp] theorem setScreens_self (s : State) : s.setScreens s.screens = s := rfl

@[simp] theorem setSignals_link (s : State) (x : SignalUnit) : (s.setSignals x).link = s.link := rfl
@[simp] theorem setSignals_cameraLocked (s : State) (x : SignalUnit) : (s.setSignals x).cameraLocked = s.cameraLocked := rfl
@[simp] theorem setSignals_streams (s : State) (x : SignalUnit) : (s.setSignals x).streams = s.streams := rfl
@[simp] theorem setSignals_screens (s : State) (x : SignalUnit) : (s.setSignals x).screens = s.screens := rfl
@[simp] theorem setSignals_signals (s : State) (x : SignalUnit) : (s.setSignals x).signals = x := rfl
@[simp] theorem setSignals_takeover (s : State) (x : SignalUnit) : (s.setSignals x).takeover = s.takeover := rfl
@[simp] theorem setSignals_guide (s : State) (x : SignalUnit) : (s.setSignals x).guide = s.guide := rfl
@[simp] theorem setSignals_overlay (s : State) (x : SignalUnit) : (s.setSignals x).overlay = s.overlay := rfl
@[simp] theorem setSignals_sound (s : State) (x : SignalUnit) : (s.setSignals x).sound = s.sound := rfl
@[simp] theorem setSignals_chimes (s : State) (x : SignalUnit) : (s.setSignals x).chimes = s.chimes := rfl
@[simp] theorem setSignals_tables (s : State) (x : SignalUnit) : (s.setSignals x).tables = s.tables := rfl
@[simp] theorem setSignals_interp (s : State) (x : SignalUnit) : (s.setSignals x).interp = s.interp := rfl
@[simp] theorem setSignals_loader (s : State) (x : SignalUnit) : (s.setSignals x).loader = s.loader := rfl
@[simp] theorem setSignals_flash (s : State) (x : SignalUnit) : (s.setSignals x).flash = s.flash := rfl
@[simp] theorem setSignals_ports (s : State) (x : SignalUnit) : (s.setSignals x).ports = s.ports := rfl
@[simp] theorem setSignals_freeCount (s : State) (x : SignalUnit) : (s.setSignals x).freeCount = s.freeCount := rfl
@[simp] theorem setSignals_pending (s : State) (x : SignalUnit) : (s.setSignals x).pending = s.pending := rfl
@[simp] theorem setSignals_setSignals (s : State) (x y : SignalUnit) :
    (s.setSignals x).setSignals y = s.setSignals y := rfl
@[simp] theorem setSignals_self (s : State) : s.setSignals s.signals = s := rfl

@[simp] theorem setTakeover_link (s : State) (x : TakeoverUnit) : (s.setTakeover x).link = s.link := rfl
@[simp] theorem setTakeover_cameraLocked (s : State) (x : TakeoverUnit) : (s.setTakeover x).cameraLocked = s.cameraLocked := rfl
@[simp] theorem setTakeover_streams (s : State) (x : TakeoverUnit) : (s.setTakeover x).streams = s.streams := rfl
@[simp] theorem setTakeover_screens (s : State) (x : TakeoverUnit) : (s.setTakeover x).screens = s.screens := rfl
@[simp] theorem setTakeover_signals (s : State) (x : TakeoverUnit) : (s.setTakeover x).signals = s.signals := rfl
@[simp] theorem setTakeover_takeover (s : State) (x : TakeoverUnit) : (s.setTakeover x).takeover = x := rfl
@[simp] theorem setTakeover_guide (s : State) (x : TakeoverUnit) : (s.setTakeover x).guide = s.guide := rfl
@[simp] theorem setTakeover_overlay (s : State) (x : TakeoverUnit) : (s.setTakeover x).overlay = s.overlay := rfl
@[simp] theorem setTakeover_sound (s : State) (x : TakeoverUnit) : (s.setTakeover x).sound = s.sound := rfl
@[simp] theorem setTakeover_chimes (s : State) (x : TakeoverUnit) : (s.setTakeover x).chimes = s.chimes := rfl
@[simp] theorem setTakeover_tables (s : State) (x : TakeoverUnit) : (s.setTakeover x).tables = s.tables := rfl
@[simp] theorem setTakeover_interp (s : State) (x : TakeoverUnit) : (s.setTakeover x).interp = s.interp := rfl
@[simp] theorem setTakeover_loader (s : State) (x : TakeoverUnit) : (s.setTakeover x).loader = s.loader := rfl
@[simp] theorem setTakeover_flash (s : State) (x : TakeoverUnit) : (s.setTakeover x).flash = s.flash := rfl
@[simp] theorem setTakeover_ports (s : State) (x : TakeoverUnit) : (s.setTakeover x).ports = s.ports := rfl
@[simp] theorem setTakeover_freeCount (s : State) (x : TakeoverUnit) : (s.setTakeover x).freeCount = s.freeCount := rfl
@[simp] theorem setTakeover_pending (s : State) (x : TakeoverUnit) : (s.setTakeover x).pending = s.pending := rfl
@[simp] theorem setTakeover_setTakeover (s : State) (x y : TakeoverUnit) :
    (s.setTakeover x).setTakeover y = s.setTakeover y := rfl
@[simp] theorem setTakeover_self (s : State) : s.setTakeover s.takeover = s := rfl

@[simp] theorem setGuide_link (s : State) (x : GuideUnit) : (s.setGuide x).link = s.link := rfl
@[simp] theorem setGuide_cameraLocked (s : State) (x : GuideUnit) : (s.setGuide x).cameraLocked = s.cameraLocked := rfl
@[simp] theorem setGuide_streams (s : State) (x : GuideUnit) : (s.setGuide x).streams = s.streams := rfl
@[simp] theorem setGuide_screens (s : State) (x : GuideUnit) : (s.setGuide x).screens = s.screens := rfl
@[simp] theorem setGuide_signals (s : State) (x : GuideUnit) : (s.setGuide x).signals = s.signals := rfl
@[simp] theorem setGuide_takeover (s : State) (x : GuideUnit) : (s.setGuide x).takeover = s.takeover := rfl
@[simp] theorem setGuide_guide (s : State) (x : GuideUnit) : (s.setGuide x).guide = x := rfl
@[simp] theorem setGuide_overlay (s : State) (x : GuideUnit) : (s.setGuide x).overlay = s.overlay := rfl
@[simp] theorem setGuide_sound (s : State) (x : GuideUnit) : (s.setGuide x).sound = s.sound := rfl
@[simp] theorem setGuide_chimes (s : State) (x : GuideUnit) : (s.setGuide x).chimes = s.chimes := rfl
@[simp] theorem setGuide_tables (s : State) (x : GuideUnit) : (s.setGuide x).tables = s.tables := rfl
@[simp] theorem setGuide_interp (s : State) (x : GuideUnit) : (s.setGuide x).interp = s.interp := rfl
@[simp] theorem setGuide_loader (s : State) (x : GuideUnit) : (s.setGuide x).loader = s.loader := rfl
@[simp] theorem setGuide_flash (s : State) (x : GuideUnit) : (s.setGuide x).flash = s.flash := rfl
@[simp] theorem setGuide_ports (s : State) (x : GuideUnit) : (s.setGuide x).ports = s.ports := rfl
@[simp] theorem setGuide_freeCount (s : State) (x : GuideUnit) : (s.setGuide x).freeCount = s.freeCount := rfl
@[simp] theorem setGuide_pending (s : State) (x : GuideUnit) : (s.setGuide x).pending = s.pending := rfl
@[simp] theorem setGuide_setGuide (s : State) (x y : GuideUnit) :
    (s.setGuide x).setGuide y = s.setGuide y := rfl
@[simp] theorem setGuide_self (s : State) : s.setGuide s.guide = s := rfl

@[simp] theorem setOverlay_link (s : State) (x : OverlayUnit) : (s.setOverlay x).link = s.link := rfl
@[simp] theorem setOverlay_cameraLocked (s : State) (x : OverlayUnit) : (s.setOverlay x).cameraLocked = s.cameraLocked := rfl
@[simp] theorem setOverlay_streams (s : State) (x : OverlayUnit) : (s.setOverlay x).streams = s.streams := rfl
@[simp] theorem setOverlay_screens (s : State) (x : OverlayUnit) : (s.setOverlay x).screens = s.screens := rfl
@[simp] theorem setOverlay_signals (s : State) (x : OverlayUnit) : (s.setOverlay x).signals = s.signals := rfl
@[simp] theorem setOverlay_takeover (s : State) (x : OverlayUnit) : (s.setOverlay x).takeover = s.takeover := rfl
@[simp] theorem setOverlay_guide (s : State) (x : OverlayUnit) : (s.setOverlay x).guide = s.guide := rfl
@[simp] theorem setOverlay_overlay (s : State) (x : OverlayUnit) : (s.setOverlay x).overlay = x := rfl
@[simp] theorem setOverlay_sound (s : State) (x : OverlayUnit) : (s.setOverlay x).sound = s.sound := rfl
@[simp] theorem setOverlay_chimes (s : State) (x : OverlayUnit) : (s.setOverlay x).chimes = s.chimes := rfl
@[simp] theorem setOverlay_tables (s : State) (x : OverlayUnit) : (s.setOverlay x).tables = s.tables := rfl
@[simp] theorem setOverlay_interp (s : State) (x : OverlayUnit) : (s.setOverlay x).interp = s.interp := rfl
@[simp] theorem setOverlay_loader (s : State) (x : OverlayUnit) : (s.setOverlay x).loader = s.loader := rfl
@[simp] theorem setOverlay_flash (s : State) (x : OverlayUnit) : (s.setOverlay x).flash = s.flash := rfl
@[simp] theorem setOverlay_ports (s : State) (x : OverlayUnit) : (s.setOverlay x).ports = s.ports := rfl
@[simp] theorem setOverlay_freeCount (s : State) (x : OverlayUnit) : (s.setOverlay x).freeCount = s.freeCount := rfl
@[simp] theorem setOverlay_pending (s : State) (x : OverlayUnit) : (s.setOverlay x).pending = s.pending := rfl
@[simp] theorem setOverlay_setOverlay (s : State) (x y : OverlayUnit) :
    (s.setOverlay x).setOverlay y = s.setOverlay y := rfl
@[simp] theorem setOverlay_self (s : State) : s.setOverlay s.overlay = s := rfl

@[simp] theorem setSound_link (s : State) (x : SoundUnit) : (s.setSound x).link = s.link := rfl
@[simp] theorem setSound_cameraLocked (s : State) (x : SoundUnit) : (s.setSound x).cameraLocked = s.cameraLocked := rfl
@[simp] theorem setSound_streams (s : State) (x : SoundUnit) : (s.setSound x).streams = s.streams := rfl
@[simp] theorem setSound_screens (s : State) (x : SoundUnit) : (s.setSound x).screens = s.screens := rfl
@[simp] theorem setSound_signals (s : State) (x : SoundUnit) : (s.setSound x).signals = s.signals := rfl
@[simp] theorem setSound_takeover (s : State) (x : SoundUnit) : (s.setSound x).takeover = s.takeover := rfl
@[simp] theorem setSound_guide (s : State) (x : SoundUnit) : (s.setSound x).guide = s.guide := rfl
@[simp] theorem setSound_overlay (s : State) (x : SoundUnit) : (s.setSound x).overlay = s.overlay := rfl
@[simp] theorem setSound_sound (s : State) (x : SoundUnit) : (s.setSound x).sound = x := rfl
@[simp] theorem setSound_chimes (s : State) (x : SoundUnit) : (s.setSound x).chimes = s.chimes := rfl
@[simp] theorem setSound_tables (s : State) (x : SoundUnit) : (s.setSound x).tables = s.tables := rfl
@[simp] theorem setSound_interp (s : State) (x : SoundUnit) : (s.setSound x).interp = s.interp := rfl
@[simp] theorem setSound_loader (s : State) (x : SoundUnit) : (s.setSound x).loader = s.loader := rfl
@[simp] theorem setSound_flash (s : State) (x : SoundUnit) : (s.setSound x).flash = s.flash := rfl
@[simp] theorem setSound_ports (s : State) (x : SoundUnit) : (s.setSound x).ports = s.ports := rfl
@[simp] theorem setSound_freeCount (s : State) (x : SoundUnit) : (s.setSound x).freeCount = s.freeCount := rfl
@[simp] theorem setSound_pending (s : State) (x : SoundUnit) : (s.setSound x).pending = s.pending := rfl
@[simp] theorem setSound_setSound (s : State) (x y : SoundUnit) :
    (s.setSound x).setSound y = s.setSound y := rfl
@[simp] theorem setSound_self (s : State) : s.setSound s.sound = s := rfl

@[simp] theorem setChimes_link (s : State) (x : ChimeUnit) : (s.setChimes x).link = s.link := rfl
@[simp] theorem setChimes_cameraLocked (s : State) (x : ChimeUnit) : (s.setChimes x).cameraLocked = s.cameraLocked := rfl
@[simp] theorem setChimes_streams (s : State) (x : ChimeUnit) : (s.setChimes x).streams = s.streams := rfl
@[simp] theorem setChimes_screens (s : State) (x : ChimeUnit) : (s.setChimes x).screens = s.screens := rfl
@[simp] theorem setChimes_signals (s : State) (x : ChimeUnit) : (s.setChimes x).signals = s.signals := rfl
@[simp] theorem setChimes_takeover (s : State) (x : ChimeUnit) : (s.setChimes x).takeover = s.takeover := rfl
@[simp] theorem setChimes_guide (s : State) (x : ChimeUnit) : (s.setChimes x).guide = s.guide := rfl
@[simp] theorem setChimes_overlay (s : State) (x : ChimeUnit) : (s.setChimes x).overlay = s.overlay := rfl
@[simp] theorem setChimes_sound (s : State) (x : ChimeUnit) : (s.setChimes x).sound = s.sound := rfl
@[simp] theorem setChimes_chimes (s : State) (x : ChimeUnit) : (s.setChimes x).chimes = x := rfl
@[simp] theorem setChimes_tables (s : State) (x : ChimeUnit) : (s.setChimes x).tables = s.tables := rfl
@[simp] theorem setChimes_interp (s : State) (x : ChimeUnit) : (s.setChimes x).interp = s.interp := rfl
@[simp] theorem setChimes_loader (s : State) (x : ChimeUnit) : (s.setChimes x).loader = s.loader := rfl
@[simp] theorem setChimes_flash (s : State) (x : ChimeUnit) : (s.setChimes x).flash = s.flash := rfl
@[simp] theorem setChimes_ports (s : State) (x : ChimeUnit) : (s.setChimes x).ports = s.ports := rfl
@[simp] theorem setChimes_freeCount (s : State) (x : ChimeUnit) : (s.setChimes x).freeCount = s.freeCount := rfl
@[simp] theorem setChimes_pending (s : State) (x : ChimeUnit) : (s.setChimes x).pending = s.pending := rfl
@[simp] theorem setChimes_setChimes (s : State) (x y : ChimeUnit) :
    (s.setChimes x).setChimes y = s.setChimes y := rfl
@[simp] theorem setChimes_self (s : State) : s.setChimes s.chimes = s := rfl

@[simp] theorem setTables_link (s : State) (x : TableStore) : (s.setTables x).link = s.link := rfl
@[simp] theorem setTables_cameraLocked (s : State) (x : TableStore) : (s.setTables x).cameraLocked = s.cameraLocked := rfl
@[simp] theorem setTables_streams (s : State) (x : TableStore) : (s.setTables x).streams = s.streams := rfl
@[simp] theorem setTables_screens (s : State) (x : TableStore) : (s.setTables x).screens = s.screens := rfl
@[simp] theorem setTables_signals (s : State) (x : TableStore) : (s.setTables x).signals = s.signals := rfl
@[simp] theorem setTables_takeover (s : State) (x : TableStore) : (s.setTables x).takeover = s.takeover := rfl
@[simp] theorem setTables_guide (s : State) (x : TableStore) : (s.setTables x).guide = s.guide := rfl
@[simp] theorem setTables_overlay (s : State) (x : TableStore) : (s.setTables x).overlay = s.overlay := rfl
@[simp] theorem setTables_sound (s : State) (x : TableStore) : (s.setTables x).sound = s.sound := rfl
@[simp] theorem setTables_chimes (s : State) (x : TableStore) : (s.setTables x).chimes = s.chimes := rfl
@[simp] theorem setTables_tables (s : State) (x : TableStore) : (s.setTables x).tables = x := rfl
@[simp] theorem setTables_interp (s : State) (x : TableStore) : (s.setTables x).interp = s.interp := rfl
@[simp] theorem setTables_loader (s : State) (x : TableStore) : (s.setTables x).loader = s.loader := rfl
@[simp] theorem setTables_flash (s : State) (x : TableStore) : (s.setTables x).flash = s.flash := rfl
@[simp] theorem setTables_ports (s : State) (x : TableStore) : (s.setTables x).ports = s.ports := rfl
@[simp] theorem setTables_freeCount (s : State) (x : TableStore) : (s.setTables x).freeCount = s.freeCount := rfl
@[simp] theorem setTables_pending (s : State) (x : TableStore) : (s.setTables x).pending = s.pending := rfl
@[simp] theorem setTables_setTables (s : State) (x y : TableStore) :
    (s.setTables x).setTables y = s.setTables y := rfl
@[simp] theorem setTables_self (s : State) : s.setTables s.tables = s := rfl

@[simp] theorem setInterp_link (s : State) (x : Interpreter) : (s.setInterp x).link = s.link := rfl
@[simp] theorem setInterp_cameraLocked (s : State) (x : Interpreter) : (s.setInterp x).cameraLocked = s.cameraLocked := rfl
@[simp] theorem setInterp_streams (s : State) (x : Interpreter) : (s.setInterp x).streams = s.streams := rfl
@[simp] theorem setInterp_screens (s : State) (x : Interpreter) : (s.setInterp x).screens = s.screens := rfl
@[simp] theorem setInterp_signals (s : State) (x : Interpreter) : (s.setInterp x).signals = s.signals := rfl
@[simp] theorem setInterp_takeover (s : State) (x : Interpreter) : (s.setInterp x).takeover = s.takeover := rfl
@[simp] theorem setInterp_guide (s : State) (x : Interpreter) : (s.setInterp x).guide = s.guide := rfl
@[simp] theorem setInterp_overlay (s : State) (x : Interpreter) : (s.setInterp x).overlay = s.overlay := rfl
@[simp] theorem setInterp_sound (s : State) (x : Interpreter) : (s.setInterp x).sound = s.sound := rfl
@[simp] theorem setInterp_chimes (s : State) (x : Interpreter) : (s.setInterp x).chimes = s.chimes := rfl
@[simp] theorem setInterp_tables (s : State) (x : Interpreter) : (s.setInterp x).tables = s.tables := rfl
@[simp] theorem setInterp_interp (s : State) (x : Interpreter) : (s.setInterp x).interp = x := rfl
@[simp] theorem setInterp_loader (s : State) (x : Interpreter) : (s.setInterp x).loader = s.loader := rfl
@[simp] theorem setInterp_flash (s : State) (x : Interpreter) : (s.setInterp x).flash = s.flash := rfl
@[simp] theorem setInterp_ports (s : State) (x : Interpreter) : (s.setInterp x).ports = s.ports := rfl
@[simp] theorem setInterp_freeCount (s : State) (x : Interpreter) : (s.setInterp x).freeCount = s.freeCount := rfl
@[simp] theorem setInterp_pending (s : State) (x : Interpreter) : (s.setInterp x).pending = s.pending := rfl
@[simp] theorem setInterp_setInterp (s : State) (x y : Interpreter) :
    (s.setInterp x).setInterp y = s.setInterp y := rfl
@[simp] theorem setInterp_self (s : State) : s.setInterp s.interp = s := rfl

@[simp] theorem setLoader_link (s : State) (x : Loader) : (s.setLoader x).link = s.link := rfl
@[simp] theorem setLoader_cameraLocked (s : State) (x : Loader) : (s.setLoader x).cameraLocked = s.cameraLocked := rfl
@[simp] theorem setLoader_streams (s : State) (x : Loader) : (s.setLoader x).streams = s.streams := rfl
@[simp] theorem setLoader_screens (s : State) (x : Loader) : (s.setLoader x).screens = s.screens := rfl
@[simp] theorem setLoader_signals (s : State) (x : Loader) : (s.setLoader x).signals = s.signals := rfl
@[simp] theorem setLoader_takeover (s : State) (x : Loader) : (s.setLoader x).takeover = s.takeover := rfl
@[simp] theorem setLoader_guide (s : State) (x : Loader) : (s.setLoader x).guide = s.guide := rfl
@[simp] theorem setLoader_overlay (s : State) (x : Loader) : (s.setLoader x).overlay = s.overlay := rfl
@[simp] theorem setLoader_sound (s : State) (x : Loader) : (s.setLoader x).sound = s.sound := rfl
@[simp] theorem setLoader_chimes (s : State) (x : Loader) : (s.setLoader x).chimes = s.chimes := rfl
@[simp] theorem setLoader_tables (s : State) (x : Loader) : (s.setLoader x).tables = s.tables := rfl
@[simp] theorem setLoader_interp (s : State) (x : Loader) : (s.setLoader x).interp = s.interp := rfl
@[simp] theorem setLoader_loader (s : State) (x : Loader) : (s.setLoader x).loader = x := rfl
@[simp] theorem setLoader_flash (s : State) (x : Loader) : (s.setLoader x).flash = s.flash := rfl
@[simp] theorem setLoader_ports (s : State) (x : Loader) : (s.setLoader x).ports = s.ports := rfl
@[simp] theorem setLoader_freeCount (s : State) (x : Loader) : (s.setLoader x).freeCount = s.freeCount := rfl
@[simp] theorem setLoader_pending (s : State) (x : Loader) : (s.setLoader x).pending = s.pending := rfl
@[simp] theorem setLoader_setLoader (s : State) (x y : Loader) :
    (s.setLoader x).setLoader y = s.setLoader y := rfl
@[simp] theorem setLoader_self (s : State) : s.setLoader s.loader = s := rfl

@[simp] theorem setFlash_link (s : State) (x : Memory) : (s.setFlash x).link = s.link := rfl
@[simp] theorem setFlash_cameraLocked (s : State) (x : Memory) : (s.setFlash x).cameraLocked = s.cameraLocked := rfl
@[simp] theorem setFlash_streams (s : State) (x : Memory) : (s.setFlash x).streams = s.streams := rfl
@[simp] theorem setFlash_screens (s : State) (x : Memory) : (s.setFlash x).screens = s.screens := rfl
@[simp] theorem setFlash_signals (s : State) (x : Memory) : (s.setFlash x).signals = s.signals := rfl
@[simp] theorem setFlash_takeover (s : State) (x : Memory) : (s.setFlash x).takeover = s.takeover := rfl
@[simp] theorem setFlash_guide (s : State) (x : Memory) : (s.setFlash x).guide = s.guide := rfl
@[simp] theorem setFlash_overlay (s : State) (x : Memory) : (s.setFlash x).overlay = s.overlay := rfl
@[simp] theorem setFlash_sound (s : State) (x : Memory) : (s.setFlash x).sound = s.sound := rfl
@[simp] theorem setFlash_chimes (s : State) (x : Memory) : (s.setFlash x).chimes = s.chimes := rfl
@[simp] theorem setFlash_tables (s : State) (x : Memory) : (s.setFlash x).tables = s.tables := rfl
@[simp] theorem setFlash_interp (s : State) (x : Memory) : (s.setFlash x).interp = s.interp := rfl
@[simp] theorem setFlash_loader (s : State) (x : Memory) : (s.setFlash x).loader = s.loader := rfl
@[simp] theorem setFlash_flash (s : State) (x : Memory) : (s.setFlash x).flash = x := rfl
@[simp] theorem setFlash_ports (s : State) (x : Memory) : (s.setFlash x).ports = s.ports := rfl
@[simp] theorem setFlash_freeCount (s : State) (x : Memory) : (s.setFlash x).freeCount = s.freeCount := rfl
@[simp] theorem setFlash_pending (s : State) (x : Memory) : (s.setFlash x).pending = s.pending := rfl
@[simp] theorem setFlash_setFlash (s : State) (x y : Memory) :
    (s.setFlash x).setFlash y = s.setFlash y := rfl
@[simp] theorem setFlash_self (s : State) : s.setFlash s.flash = s := rfl

@[simp] theorem setPorts_link (s : State) (x : Ports) : (s.setPorts x).link = s.link := rfl
@[simp] theorem setPorts_cameraLocked (s : State) (x : Ports) : (s.setPorts x).cameraLocked = s.cameraLocked := rfl
@[simp] theorem setPorts_streams (s : State) (x : Ports) : (s.setPorts x).streams = s.streams := rfl
@[simp] theorem setPorts_screens (s : State) (x : Ports) : (s.setPorts x).screens = s.screens := rfl
@[simp] theorem setPorts_signals (s : State) (x : Ports) : (s.setPorts x).signals = s.signals := rfl
@[simp] theorem setPorts_takeover (s : State) (x : Ports) : (s.setPorts x).takeover = s.takeover := rfl
@[simp] theorem setPorts_guide (s : State) (x : Ports) : (s.setPorts x).guide = s.guide := rfl
@[simp] theorem setPorts_overlay (s : State) (x : Ports) : (s.setPorts x).overlay = s.overlay := rfl
@[simp] theorem setPorts_sound (s : State) (x : Ports) : (s.setPorts x).sound = s.sound := rfl
@[simp] theorem setPorts_chimes (s : State) (x : Ports) : (s.setPorts x).chimes = s.chimes := rfl
@[simp] theorem setPorts_tables (s : State) (x : Ports) : (s.setPorts x).tables = s.tables := rfl
@[simp] theorem setPorts_interp (s : State) (x : Ports) : (s.setPorts x).interp = s.interp := rfl
@[simp] theorem setPorts_loader (s : State) (x : Ports) : (s.setPorts x).loader = s.loader := rfl
@[simp] theorem setPorts_flash (s : State) (x : Ports) : (s.setPorts x).flash = s.flash := rfl
@[simp] theorem setPorts_ports (s : State) (x : Ports) : (s.setPorts x).ports = x := rfl
@[simp] theorem setPorts_freeCount (s : State) (x : Ports) : (s.setPorts x).freeCount = s.freeCount := rfl
@[simp] theorem setPorts_pending (s : State) (x : Ports) : (s.setPorts x).pending = s.pending := rfl
@[simp] theorem setPorts_setPorts (s : State) (x y : Ports) :
    (s.setPorts x).setPorts y = s.setPorts y := rfl
@[simp] theorem setPorts_self (s : State) : s.setPorts s.ports = s := rfl

@[simp] theorem setFreeCount_link (s : State) (x : Nat) : (s.setFreeCount x).link = s.link := rfl
@[simp] theorem setFreeCount_cameraLocked (s : State) (x : Nat) : (s.setFreeCount x).cameraLocked = s.cameraLocked := rfl
@[simp] theorem setFreeCount_streams (s : State) (x : Nat) : (s.setFreeCount x).streams = s.streams := rfl
@[simp] theorem setFreeCount_screens (s : State) (x : Nat) : (s.setFreeCount x).screens = s.screens := rfl
@[simp] theorem setFreeCount_signals (s : State) (x : Nat) : (s.setFreeCount x).signals = s.signals := rfl
@[simp] theorem setFreeCount_takeover (s : State) (x : Nat) : (s.setFreeCount x).takeover = s.takeover := rfl
@[simp] theorem setFreeCount_guide (s : State) (x : Nat) : (s.setFreeCount x).guide = s.guide := rfl
@[simp] theorem setFreeCount_overlay (s : State) (x : Nat) : (s.setFreeCount x).overlay = s.overlay := rfl
@[simp] theorem setFreeCount_sound (s : State) (x : Nat) : (s.setFreeCount x).sound = s.sound := rfl
@[simp] theorem setFreeCount_chimes (s : State) (x : Nat) : (s.setFreeCount x).chimes = s.chimes := rfl
@[simp] theorem setFreeCount_tables (s : State) (x : Nat) : (s.setFreeCount x).tables = s.tables := rfl
@[simp] theorem setFreeCount_interp (s : State) (x : Nat) : (s.setFreeCount x).interp = s.interp := rfl
@[simp] theorem setFreeCount_loader (s : State) (x : Nat) : (s.setFreeCount x).loader = s.loader := rfl
@[simp] theorem setFreeCount_flash (s : State) (x : Nat) : (s.setFreeCount x).flash = s.flash := rfl
@[simp] theorem setFreeCount_ports (s : State) (x : Nat) : (s.setFreeCount x).ports = s.ports := rfl
@[simp] theorem setFreeCount_freeCount (s : State) (x : Nat) : (s.setFreeCount x).freeCount = x := rfl
@[simp] theorem setFreeCount_pending (s : State) (x : Nat) : (s.setFreeCount x).pending = s.pending := rfl
@[simp] theorem setFreeCount_setFreeCount (s : State) (x y : Nat) :
    (s.setFreeCount x).setFreeCount y = s.setFreeCount y := rfl
@[simp] theorem setFreeCount_self (s : State) : s.setFreeCount s.freeCount = s := rfl

@[simp] theorem setPending_link (s : State) (x : List Instr) : (s.setPending x).link = s.link := rfl
@[simp] theorem setPending_cameraLocked (s : State) (x : List Instr) : (s.setPending x).cameraLocked = s.cameraLocked := rfl
@[simp] theorem setPending_streams (s : State) (x : List Instr) : (s.setPending x).streams = s.streams := rfl
@[simp] theorem setPending_screens (s : State) (x : List Instr) : (s.setPending x).screens = s.screens := rfl
@[simp] theorem setPending_signals (s : State) (x : List Instr) : (s.setPending x).signals = s.signals := rfl
@[simp] theorem setPending_takeover (s : State) (x : List Instr) : (s.setPending x).takeover = s.takeover := rfl
@[simp] theorem setPending_guide (s : State) (x : List Instr) : (s.setPending x).guide = s.guide := rfl
@[simp] theorem setPending_overlay (s : State) (x : List Instr) : (s.setPending x).overlay = s.overlay := rfl
@[simp] theorem setPending_sound (s : State) (x : List Instr) : (s.setPending x).sound = s.sound := rfl
@[simp] theorem setPending_chimes (s : State) (x : List Instr) : (s.setPending x).chimes = s.chimes := rfl
@[simp] theorem setPending_tables (s : State) (x : List Instr) : (s.setPending x).tables = s.tables := rfl
@[simp] theorem setPending_interp (s : State) (x : List Instr) : (s.setPending x).interp = s.interp := rfl
@[simp] theorem setPending_loader (s : State) (x : List Instr) : (s.setPending x).loader = s.loader := rfl
@[simp] theorem setPending_flash (s : State) (x : List Instr) : (s.setPending x).flash = s.flash := rfl
@[simp] theorem setPending_ports (s : State) (x : List Instr) : (s.setPending x).ports = s.ports := rfl
@[simp] theorem setPending_freeCount (s : State) (x : List Instr) : (s.setPending x).freeCount = s.freeCount := rfl
@[simp] theorem setPending_pending (s : State) (x : List Instr) : (s.setPending x).pending = x := rfl
@[simp] theorem setPending_setPending (s : State) (x y : List Instr) :
    (s.setPending x).setPending y = s.setPending y := rfl
@[simp] theorem setPending_self (s : State) : s.setPending s.pending = s := rfl

@[simp] theorem setStream_link (s : State) (k : StreamId) (x : StreamRec) : (s.setStream k x).link = s.link := rfl
@[simp] theorem setStream_cameraLocked (s : State) (k : StreamId) (x : StreamRec) : (s.setStream k x).cameraLocked = s.cameraLocked := rfl
@[simp] theorem setStream_streams (s : State) (k : StreamId) (x : StreamRec) : (s.setStream k x).streams = s.streams.set k x := rfl
@[simp] theorem setStream_screens (s : State) (k : StreamId) (x : StreamRec) : (s.setStream k x).screens = s.screens := rfl
@[simp] theorem setStream_signals (s : State) (k : StreamId) (x : StreamRec) : (s.setStream k x).signals = s.signals := rfl
@[simp] theorem setStream_takeover (s : State) (k : StreamId) (x : StreamRec) : (s.setStream k x).takeover = s.takeover := rfl
@[simp] theorem setStream_guide (s : State) (k : StreamId) (x : StreamRec) : (s.setStream k x).guide = s.guide := rfl
@[simp] theorem setStream_overlay (s : State) (k : StreamId) (x : StreamRec) : (s.setStream k x).overlay = s.overlay := rfl
@[simp] theorem setStream_sound (s : State) (k : StreamId) (x : StreamRec) : (s.setStream k x).sound = s.sound := rfl
@[simp] theorem setStream_chimes (s : State) (k : StreamId) (x : StreamRec) : (s.setStream k x).chimes = s.chimes := rfl
@[simp] theorem setStream_tables (s : State) (k : StreamId) (x : StreamRec) : (s.setStream k x).tables = s.tables := rfl
@[simp] theorem setStream_interp (s : State) (k : StreamId) (x : StreamRec) : (s.setStream k x).interp = s.interp := rfl
@[simp] theorem setStream_loader (s : State) (k : StreamId) (x : StreamRec) : (s.setStream k x).loader = s.loader := rfl
@[simp] theorem setStream_flash (s : State) (k : StreamId) (x : StreamRec) : (s.setStream k x).flash = s.flash := rfl
@[simp] theorem setStream_ports (s : State) (k : StreamId) (x : StreamRec) : (s.setStream k x).ports = s.ports := rfl
@[simp] theorem setStream_freeCount (s : State) (k : StreamId) (x : StreamRec) : (s.setStream k x).freeCount = s.freeCount := rfl
@[simp] theorem setStream_pending (s : State) (k : StreamId) (x : StreamRec) : (s.setStream k x).pending = s.pending := rfl

@[simp] theorem setScreen_link (s : State) (k : ScreenId) (x : ScreenUnit) : (s.setScreen k x).link = s.link := rfl
@[simp] theorem setScreen_cameraLocked (s : State) (k : ScreenId) (x : ScreenUnit) : (s.setScreen k x).cameraLocked = s.cameraLocked := rfl
@[simp] theorem setScreen_streams (s : State) (k : ScreenId) (x : ScreenUnit) : (s.setScreen k x).streams = s.streams := rfl
@[simp] theorem setScreen_screens (s : State) (k : ScreenId) (x : ScreenUnit) : (s.setScreen k x).screens = s.screens.set k x := rfl
@[simp] theorem setScreen_signals (s : State) (k : ScreenId) (x : ScreenUnit) : (s.setScreen k x).signals = s.signals := rfl
@[simp] theorem setScreen_takeover (s : State) (k : ScreenId) (x : ScreenUnit) : (s.setScreen k x).takeover = s.takeover := rfl
@[simp] theorem setScreen_guide (s : State) (k : ScreenId) (x : ScreenUnit) : (s.setScreen k x).guide = s.guide := rfl
@[simp] theorem setScreen_overlay (s : State) (k : ScreenId) (x : ScreenUnit) : (s.setScreen k x).overlay = s.overlay := rfl
@[simp] theorem setScreen_sound (s : State) (k : ScreenId) (x : ScreenUnit) : (s.setScreen k x).sound = s.sound := rfl
@[simp] theorem setScreen_chimes (s : State) (k : ScreenId) (x : ScreenUnit) : (s.setScreen k x).chimes = s.chimes := rfl
@[simp] theorem setScreen_tables (s : State) (k : ScreenId) (x : ScreenUnit) : (s.setScreen k x).tables = s.tables := rfl
@[simp] theorem setScreen_interp (s : State) (k : ScreenId) (x : ScreenUnit) : (s.setScreen k x).interp = s.interp := rfl
@[simp] theorem setScreen_loader (s : State) (k : ScreenId) (x : ScreenUnit) : (s.setScreen k x).loader = s.loader := rfl
@[simp] theorem setScreen_flash (s : State) (k : ScreenId) (x : ScreenUnit) : (s.setScreen k x).flash = s.flash := rfl
@[simp] theorem setScreen_ports (s : State) (k : ScreenId) (x : ScreenUnit) : (s.setScreen k x).ports = s.ports := rfl
@[simp] theorem setScreen_freeCount (s : State) (k : ScreenId) (x : ScreenUnit) : (s.setScreen k x).freeCount = s.freeCount := rfl
@[simp] theorem setScreen_pending (s : State) (k : ScreenId) (x : ScreenUnit) : (s.setScreen k x).pending = s.pending := rfl

end Sys2Proof.Machine
end

