-- ==== Sys2Proof/Laws/Frames.lean ====
section
/-! SUPPORT. What each shared operation leaves as it was: one lemma for each operation, naming every part of
the state that it does not change. -/

namespace Sys2Proof.Machine

open Sys2Proof

@[simp] theorem raise_frame (s : State) (c : Cause) (r : Raising) :
    (s.raise c r).link = s.link ∧ (s.raise c r).cameraLocked = s.cameraLocked ∧
    (s.raise c r).streams = s.streams ∧ (s.raise c r).screens = s.screens ∧
    (s.raise c r).signals = s.signals ∧ (s.raise c r).takeover = s.takeover ∧
    (s.raise c r).guide = s.guide ∧ (s.raise c r).overlay = s.overlay ∧ (s.raise c r).sound = s.sound ∧
    (s.raise c r).chimes = s.chimes ∧ (s.raise c r).tables = s.tables ∧
    (s.raise c r).loader = s.loader ∧ (s.raise c r).flash = s.flash ∧ (s.raise c r).ports = s.ports ∧
    (s.raise c r).freeCount = s.freeCount ∧ (s.raise c r).pending = s.pending := by
  and_intros
  all_goals
    unfold State.raise
    repeat' split
    all_goals simp_all

@[simp] theorem raiseStreamFault_frame (s : State) (k : StreamId) :
    (s.raiseStreamFault k).link = s.link ∧ (s.raiseStreamFault k).cameraLocked = s.cameraLocked ∧
    (s.raiseStreamFault k).streams = s.streams ∧ (s.raiseStreamFault k).screens = s.screens ∧
    (s.raiseStreamFault k).signals = s.signals ∧ (s.raiseStreamFault k).takeover = s.takeover ∧
    (s.raiseStreamFault k).guide = s.guide ∧ (s.raiseStreamFault k).overlay = s.overlay ∧
    (s.raiseStreamFault k).sound = s.sound ∧ (s.raiseStreamFault k).chimes = s.chimes ∧
    (s.raiseStreamFault k).tables = s.tables ∧ (s.raiseStreamFault k).loader = s.loader ∧
    (s.raiseStreamFault k).flash = s.flash ∧ (s.raiseStreamFault k).ports = s.ports ∧
    (s.raiseStreamFault k).freeCount = s.freeCount ∧ (s.raiseStreamFault k).pending = s.pending := by
  and_intros
  all_goals
    unfold State.raiseStreamFault
    repeat' split
    all_goals simp_all

@[simp] theorem raiseChimeDropped_frame (s : State) (p : Fin 16) :
    (s.raiseChimeDropped p).link = s.link ∧ (s.raiseChimeDropped p).cameraLocked = s.cameraLocked ∧
    (s.raiseChimeDropped p).streams = s.streams ∧ (s.raiseChimeDropped p).screens = s.screens ∧
    (s.raiseChimeDropped p).signals = s.signals ∧ (s.raiseChimeDropped p).takeover = s.takeover ∧
    (s.raiseChimeDropped p).guide = s.guide ∧ (s.raiseChimeDropped p).overlay = s.overlay ∧
    (s.raiseChimeDropped p).sound = s.sound ∧ (s.raiseChimeDropped p).chimes = s.chimes ∧
    (s.raiseChimeDropped p).tables = s.tables ∧ (s.raiseChimeDropped p).loader = s.loader ∧
    (s.raiseChimeDropped p).flash = s.flash ∧ (s.raiseChimeDropped p).ports = s.ports ∧
    (s.raiseChimeDropped p).freeCount = s.freeCount ∧ (s.raiseChimeDropped p).pending = s.pending := by
  and_intros
  all_goals
    unfold State.raiseChimeDropped
    repeat' split
    all_goals simp_all

@[simp] theorem raiseStartUpFault_frame (s : State) (p : Fin 16) :
    (s.raiseStartUpFault p).link = s.link ∧ (s.raiseStartUpFault p).cameraLocked = s.cameraLocked ∧
    (s.raiseStartUpFault p).streams = s.streams ∧ (s.raiseStartUpFault p).screens = s.screens ∧
    (s.raiseStartUpFault p).signals = s.signals ∧ (s.raiseStartUpFault p).takeover = s.takeover ∧
    (s.raiseStartUpFault p).guide = s.guide ∧ (s.raiseStartUpFault p).overlay = s.overlay ∧
    (s.raiseStartUpFault p).sound = s.sound ∧ (s.raiseStartUpFault p).chimes = s.chimes ∧
    (s.raiseStartUpFault p).tables = s.tables ∧ (s.raiseStartUpFault p).loader = s.loader ∧
    (s.raiseStartUpFault p).flash = s.flash ∧ (s.raiseStartUpFault p).ports = s.ports ∧
    (s.raiseStartUpFault p).freeCount = s.freeCount ∧ (s.raiseStartUpFault p).pending = s.pending := by
  and_intros
  all_goals
    unfold State.raiseStartUpFault
    repeat' split
    all_goals simp_all

@[simp] theorem handMarker_frame (s : State) (p : BackPacket) :
    (s.handMarker p).cameraLocked = s.cameraLocked ∧ (s.handMarker p).streams = s.streams ∧
    (s.handMarker p).screens = s.screens ∧ (s.handMarker p).signals = s.signals ∧
    (s.handMarker p).takeover = s.takeover ∧ (s.handMarker p).guide = s.guide ∧
    (s.handMarker p).overlay = s.overlay ∧ (s.handMarker p).sound = s.sound ∧
    (s.handMarker p).chimes = s.chimes ∧ (s.handMarker p).tables = s.tables ∧
    (s.handMarker p).interp = s.interp ∧ (s.handMarker p).loader = s.loader ∧
    (s.handMarker p).flash = s.flash ∧ (s.handMarker p).ports = s.ports ∧
    (s.handMarker p).freeCount = s.freeCount ∧ (s.handMarker p).pending = s.pending := by
  and_intros
  all_goals
    unfold State.handMarker
    repeat' split
    all_goals simp_all

@[simp] theorem handReply_frame (s : State) (r : Reply) :
    (s.handReply r).cameraLocked = s.cameraLocked ∧ (s.handReply r).streams = s.streams ∧
    (s.handReply r).screens = s.screens ∧ (s.handReply r).signals = s.signals ∧
    (s.handReply r).takeover = s.takeover ∧ (s.handReply r).guide = s.guide ∧
    (s.handReply r).overlay = s.overlay ∧ (s.handReply r).sound = s.sound ∧
    (s.handReply r).chimes = s.chimes ∧ (s.handReply r).tables = s.tables ∧
    (s.handReply r).interp = s.interp ∧ (s.handReply r).loader = s.loader ∧
    (s.handReply r).flash = s.flash ∧ (s.handReply r).ports = s.ports ∧
    (s.handReply r).freeCount = s.freeCount ∧ (s.handReply r).pending = s.pending := by
  and_intros
  all_goals
    unfold State.handReply
    repeat' split
    all_goals simp_all

@[simp] theorem popCommand_frame (s : State) :
    (s.popCommand).link = s.link ∧ (s.popCommand).cameraLocked = s.cameraLocked ∧
    (s.popCommand).streams = s.streams ∧ (s.popCommand).screens = s.screens ∧
    (s.popCommand).signals = s.signals ∧ (s.popCommand).takeover = s.takeover ∧
    (s.popCommand).guide = s.guide ∧ (s.popCommand).overlay = s.overlay ∧
    (s.popCommand).sound = s.sound ∧ (s.popCommand).chimes = s.chimes ∧
    (s.popCommand).tables = s.tables ∧ (s.popCommand).loader = s.loader ∧
    (s.popCommand).flash = s.flash ∧ (s.popCommand).ports = s.ports ∧
    (s.popCommand).freeCount = s.freeCount ∧ (s.popCommand).pending = s.pending := by
  and_intros
  all_goals
    unfold State.popCommand
    repeat' split
    all_goals simp_all

@[simp] theorem noteRefusal_frame (s : State) (p : ControlPacket) (r : Result) :
    (s.noteRefusal p r).link = s.link ∧ (s.noteRefusal p r).cameraLocked = s.cameraLocked ∧
    (s.noteRefusal p r).streams = s.streams ∧ (s.noteRefusal p r).screens = s.screens ∧
    (s.noteRefusal p r).signals = s.signals ∧ (s.noteRefusal p r).takeover = s.takeover ∧
    (s.noteRefusal p r).guide = s.guide ∧ (s.noteRefusal p r).overlay = s.overlay ∧
    (s.noteRefusal p r).sound = s.sound ∧ (s.noteRefusal p r).chimes = s.chimes ∧
    (s.noteRefusal p r).tables = s.tables ∧ (s.noteRefusal p r).loader = s.loader ∧
    (s.noteRefusal p r).flash = s.flash ∧ (s.noteRefusal p r).ports = s.ports ∧
    (s.noteRefusal p r).freeCount = s.freeCount ∧ (s.noteRefusal p r).pending = s.pending := by
  and_intros
  all_goals
    unfold State.noteRefusal
    repeat' split
    all_goals simp_all

@[simp] theorem setFrontTiming_frame (s : State) (m : TimingMode) :
    (s.setFrontTiming m).link = s.link ∧ (s.setFrontTiming m).cameraLocked = s.cameraLocked ∧
    (s.setFrontTiming m).streams = s.streams ∧ (s.setFrontTiming m).signals = s.signals ∧
    (s.setFrontTiming m).takeover = s.takeover ∧ (s.setFrontTiming m).guide = s.guide ∧
    (s.setFrontTiming m).overlay = s.overlay ∧ (s.setFrontTiming m).sound = s.sound ∧
    (s.setFrontTiming m).chimes = s.chimes ∧ (s.setFrontTiming m).tables = s.tables ∧
    (s.setFrontTiming m).interp = s.interp ∧ (s.setFrontTiming m).loader = s.loader ∧
    (s.setFrontTiming m).flash = s.flash ∧ (s.setFrontTiming m).ports = s.ports ∧
    (s.setFrontTiming m).freeCount = s.freeCount ∧ (s.setFrontTiming m).pending = s.pending := by
  and_intros
  all_goals
    unfold State.setFrontTiming
    repeat' split
    all_goals simp_all

@[simp] theorem cameraEntersRunning_frame (s : State) :
    (s.cameraEntersRunning).link = s.link ∧ (s.cameraEntersRunning).cameraLocked = s.cameraLocked ∧
    (s.cameraEntersRunning).streams = s.streams ∧ (s.cameraEntersRunning).signals = s.signals ∧
    (s.cameraEntersRunning).takeover = s.takeover ∧ (s.cameraEntersRunning).guide = s.guide ∧
    (s.cameraEntersRunning).overlay = s.overlay ∧ (s.cameraEntersRunning).sound = s.sound ∧
    (s.cameraEntersRunning).chimes = s.chimes ∧ (s.cameraEntersRunning).tables = s.tables ∧
    (s.cameraEntersRunning).interp = s.interp ∧ (s.cameraEntersRunning).loader = s.loader ∧
    (s.cameraEntersRunning).flash = s.flash ∧ (s.cameraEntersRunning).ports = s.ports ∧
    (s.cameraEntersRunning).freeCount = s.freeCount ∧ (s.cameraEntersRunning).pending = s.pending := by
  and_intros
  all_goals
    unfold State.cameraEntersRunning
    repeat' split
    all_goals simp_all

@[simp] theorem cameraLeavesRunning_frame (s : State) :
    (s.cameraLeavesRunning).link = s.link ∧ (s.cameraLeavesRunning).cameraLocked = s.cameraLocked ∧
    (s.cameraLeavesRunning).streams = s.streams ∧ (s.cameraLeavesRunning).signals = s.signals ∧
    (s.cameraLeavesRunning).takeover = s.takeover ∧ (s.cameraLeavesRunning).guide = s.guide ∧
    (s.cameraLeavesRunning).overlay = s.overlay ∧ (s.cameraLeavesRunning).sound = s.sound ∧
    (s.cameraLeavesRunning).chimes = s.chimes ∧ (s.cameraLeavesRunning).tables = s.tables ∧
    (s.cameraLeavesRunning).loader = s.loader ∧ (s.cameraLeavesRunning).flash = s.flash ∧
    (s.cameraLeavesRunning).ports = s.ports ∧ (s.cameraLeavesRunning).freeCount = s.freeCount ∧
    (s.cameraLeavesRunning).pending = s.pending := by
  and_intros
  all_goals
    unfold State.cameraLeavesRunning
    repeat' split
    all_goals simp_all

@[simp] theorem turnFrames_frame (s : State) (k : StreamId) :
    (s.turnFrames k).link = s.link ∧ (s.turnFrames k).cameraLocked = s.cameraLocked ∧
    (s.turnFrames k).streams = s.streams ∧ (s.turnFrames k).signals = s.signals ∧
    (s.turnFrames k).takeover = s.takeover ∧ (s.turnFrames k).guide = s.guide ∧
    (s.turnFrames k).overlay = s.overlay ∧ (s.turnFrames k).sound = s.sound ∧
    (s.turnFrames k).chimes = s.chimes ∧ (s.turnFrames k).tables = s.tables ∧
    (s.turnFrames k).interp = s.interp ∧ (s.turnFrames k).loader = s.loader ∧
    (s.turnFrames k).flash = s.flash ∧ (s.turnFrames k).ports = s.ports ∧
    (s.turnFrames k).freeCount = s.freeCount ∧ (s.turnFrames k).pending = s.pending := by
  and_intros
  all_goals rfl

@[simp] theorem entersRunning_frame (s : State) (k : StreamId) :
    (s.entersRunning k).link = s.link ∧ (s.entersRunning k).cameraLocked = s.cameraLocked ∧
    (s.entersRunning k).streams = s.streams ∧ (s.entersRunning k).signals = s.signals ∧
    (s.entersRunning k).takeover = s.takeover ∧ (s.entersRunning k).guide = s.guide ∧
    (s.entersRunning k).overlay = s.overlay ∧ (s.entersRunning k).sound = s.sound ∧
    (s.entersRunning k).chimes = s.chimes ∧ (s.entersRunning k).tables = s.tables ∧
    (s.entersRunning k).interp = s.interp ∧ (s.entersRunning k).loader = s.loader ∧
    (s.entersRunning k).flash = s.flash ∧ (s.entersRunning k).ports = s.ports ∧
    (s.entersRunning k).freeCount = s.freeCount ∧ (s.entersRunning k).pending = s.pending := by
  and_intros
  all_goals
    simp only [State.entersRunning]
    split
    all_goals simp

@[simp] theorem handleLine_frame (s : State) (k : StreamId) (e : QueueEntry) :
    (s.handleLine k e).link = s.link ∧ (s.handleLine k e).cameraLocked = s.cameraLocked ∧
    (s.handleLine k e).signals = s.signals ∧ (s.handleLine k e).takeover = s.takeover ∧
    (s.handleLine k e).guide = s.guide ∧ (s.handleLine k e).overlay = s.overlay ∧
    (s.handleLine k e).sound = s.sound ∧ (s.handleLine k e).chimes = s.chimes ∧
    (s.handleLine k e).tables = s.tables ∧ (s.handleLine k e).loader = s.loader ∧
    (s.handleLine k e).flash = s.flash ∧ (s.handleLine k e).ports = s.ports ∧
    (s.handleLine k e).freeCount = s.freeCount ∧ (s.handleLine k e).pending = s.pending := by
  and_intros
  all_goals
    simp only [State.handleLine]
    repeat' split
    all_goals simp

@[simp] theorem completeLine_frame (s : State) (k : StreamId) (e : QueueEntry) :
    (s.completeLine k e).link = s.link ∧ (s.completeLine k e).cameraLocked = s.cameraLocked ∧
    (s.completeLine k e).signals = s.signals ∧ (s.completeLine k e).takeover = s.takeover ∧
    (s.completeLine k e).guide = s.guide ∧ (s.completeLine k e).overlay = s.overlay ∧
    (s.completeLine k e).sound = s.sound ∧ (s.completeLine k e).chimes = s.chimes ∧
    (s.completeLine k e).tables = s.tables ∧ (s.completeLine k e).loader = s.loader ∧
    (s.completeLine k e).flash = s.flash ∧ (s.completeLine k e).ports = s.ports ∧
    (s.completeLine k e).freeCount = s.freeCount ∧ (s.completeLine k e).pending = s.pending := by
  and_intros
  all_goals
    simp only [State.completeLine]
    repeat' split
    all_goals simp

@[simp] theorem countStray_frame (s : State) (k : StreamId) :
    (s.countStray k).link = s.link ∧ (s.countStray k).cameraLocked = s.cameraLocked ∧
    (s.countStray k).screens = s.screens ∧ (s.countStray k).signals = s.signals ∧
    (s.countStray k).takeover = s.takeover ∧ (s.countStray k).guide = s.guide ∧
    (s.countStray k).overlay = s.overlay ∧ (s.countStray k).sound = s.sound ∧
    (s.countStray k).chimes = s.chimes ∧ (s.countStray k).tables = s.tables ∧
    (s.countStray k).interp = s.interp ∧ (s.countStray k).loader = s.loader ∧
    (s.countStray k).flash = s.flash ∧ (s.countStray k).ports = s.ports ∧
    (s.countStray k).freeCount = s.freeCount ∧ (s.countStray k).pending = s.pending := by
  and_intros
  all_goals
    unfold State.countStray
    repeat' split
    all_goals simp_all

@[simp] theorem takeLinePacket_frame (s : State) (l : LinkId) (p : LinePacket) :
    (s.takeLinePacket l p).link = s.link ∧ (s.takeLinePacket l p).cameraLocked = s.cameraLocked ∧
    (s.takeLinePacket l p).signals = s.signals ∧ (s.takeLinePacket l p).takeover = s.takeover ∧
    (s.takeLinePacket l p).guide = s.guide ∧ (s.takeLinePacket l p).overlay = s.overlay ∧
    (s.takeLinePacket l p).sound = s.sound ∧ (s.takeLinePacket l p).chimes = s.chimes ∧
    (s.takeLinePacket l p).tables = s.tables ∧ (s.takeLinePacket l p).loader = s.loader ∧
    (s.takeLinePacket l p).flash = s.flash ∧ (s.takeLinePacket l p).ports = s.ports ∧
    (s.takeLinePacket l p).freeCount = s.freeCount ∧ (s.takeLinePacket l p).pending = s.pending := by
  and_intros
  all_goals
    unfold State.takeLinePacket
    repeat' split
    all_goals simp_all

@[simp] theorem parkSource_frame (s : State) (o : Option StreamId) :
    (s.parkSource o).link = s.link ∧ (s.parkSource o).cameraLocked = s.cameraLocked ∧
    (s.parkSource o).screens = s.screens ∧ (s.parkSource o).signals = s.signals ∧
    (s.parkSource o).takeover = s.takeover ∧ (s.parkSource o).guide = s.guide ∧
    (s.parkSource o).overlay = s.overlay ∧ (s.parkSource o).sound = s.sound ∧
    (s.parkSource o).chimes = s.chimes ∧ (s.parkSource o).tables = s.tables ∧
    (s.parkSource o).interp = s.interp ∧ (s.parkSource o).loader = s.loader ∧
    (s.parkSource o).flash = s.flash ∧ (s.parkSource o).ports = s.ports ∧
    (s.parkSource o).freeCount = s.freeCount ∧ (s.parkSource o).pending = s.pending := by
  and_intros
  all_goals
    unfold State.parkSource
    repeat' split
    all_goals simp_all

@[simp] theorem unparkSource_frame (s : State) (o : Option StreamId) :
    (s.unparkSource o).link = s.link ∧ (s.unparkSource o).cameraLocked = s.cameraLocked ∧
    (s.unparkSource o).signals = s.signals ∧ (s.unparkSource o).takeover = s.takeover ∧
    (s.unparkSource o).guide = s.guide ∧ (s.unparkSource o).overlay = s.overlay ∧
    (s.unparkSource o).sound = s.sound ∧ (s.unparkSource o).chimes = s.chimes ∧
    (s.unparkSource o).tables = s.tables ∧ (s.unparkSource o).interp = s.interp ∧
    (s.unparkSource o).loader = s.loader ∧ (s.unparkSource o).flash = s.flash ∧
    (s.unparkSource o).ports = s.ports ∧ (s.unparkSource o).freeCount = s.freeCount ∧
    (s.unparkSource o).pending = s.pending := by
  cases o with
  | none => simp [State.unparkSource]
  | some k =>
    and_intros
    all_goals
      simp only [State.unparkSource]
      split
      all_goals simp

@[simp] theorem loseCabinStream_frame (s : State) (k : StreamId) :
    (s.loseCabinStream k).link = s.link ∧ (s.loseCabinStream k).cameraLocked = s.cameraLocked ∧
    (s.loseCabinStream k).screens = s.screens ∧ (s.loseCabinStream k).signals = s.signals ∧
    (s.loseCabinStream k).takeover = s.takeover ∧ (s.loseCabinStream k).guide = s.guide ∧
    (s.loseCabinStream k).overlay = s.overlay ∧ (s.loseCabinStream k).sound = s.sound ∧
    (s.loseCabinStream k).chimes = s.chimes ∧ (s.loseCabinStream k).tables = s.tables ∧
    (s.loseCabinStream k).loader = s.loader ∧ (s.loseCabinStream k).flash = s.flash ∧
    (s.loseCabinStream k).ports = s.ports ∧ (s.loseCabinStream k).freeCount = s.freeCount ∧
    (s.loseCabinStream k).pending = s.pending := by
  and_intros
  all_goals
    simp only [State.loseCabinStream]
    repeat' split
    all_goals simp

@[simp] theorem loseCamera_frame (s : State) :
    (s.loseCamera).link = s.link ∧ (s.loseCamera).cameraLocked = s.cameraLocked ∧
    (s.loseCamera).signals = s.signals ∧ (s.loseCamera).takeover = s.takeover ∧
    (s.loseCamera).guide = s.guide ∧ (s.loseCamera).overlay = s.overlay ∧
    (s.loseCamera).sound = s.sound ∧ (s.loseCamera).chimes = s.chimes ∧
    (s.loseCamera).tables = s.tables ∧ (s.loseCamera).loader = s.loader ∧
    (s.loseCamera).flash = s.flash ∧ (s.loseCamera).ports = s.ports ∧
    (s.loseCamera).freeCount = s.freeCount ∧ (s.loseCamera).pending = s.pending := by
  and_intros
  all_goals
    simp only [State.loseCamera]
    repeat' split
    all_goals simp

@[simp] theorem openCamera_frame (s : State) :
    (s.openCamera).link = s.link ∧ (s.openCamera).cameraLocked = s.cameraLocked ∧
    (s.openCamera).screens = s.screens ∧ (s.openCamera).signals = s.signals ∧
    (s.openCamera).takeover = s.takeover ∧ (s.openCamera).guide = s.guide ∧
    (s.openCamera).overlay = s.overlay ∧ (s.openCamera).sound = s.sound ∧
    (s.openCamera).chimes = s.chimes ∧ (s.openCamera).tables = s.tables ∧
    (s.openCamera).interp = s.interp ∧ (s.openCamera).loader = s.loader ∧
    (s.openCamera).flash = s.flash ∧ (s.openCamera).ports = s.ports ∧
    (s.openCamera).freeCount = s.freeCount ∧ (s.openCamera).pending = s.pending := by
  and_intros
  all_goals
    unfold State.openCamera
    repeat' split
    all_goals simp_all

@[simp] theorem reopenCamera_frame (s : State) :
    (s.reopenCamera).link = s.link ∧ (s.reopenCamera).cameraLocked = s.cameraLocked ∧
    (s.reopenCamera).signals = s.signals ∧ (s.reopenCamera).takeover = s.takeover ∧
    (s.reopenCamera).guide = s.guide ∧ (s.reopenCamera).overlay = s.overlay ∧
    (s.reopenCamera).sound = s.sound ∧ (s.reopenCamera).chimes = s.chimes ∧
    (s.reopenCamera).tables = s.tables ∧ (s.reopenCamera).loader = s.loader ∧
    (s.reopenCamera).flash = s.flash ∧ (s.reopenCamera).ports = s.ports ∧
    (s.reopenCamera).freeCount = s.freeCount ∧ (s.reopenCamera).pending = s.pending := by
  and_intros
  all_goals
    simp only [State.reopenCamera]
    repeat' split
    all_goals simp

@[simp] theorem closeStream_frame (s : State) (k : StreamId) :
    (s.closeStream k).link = s.link ∧ (s.closeStream k).cameraLocked = s.cameraLocked ∧
    (s.closeStream k).screens = s.screens ∧ (s.closeStream k).signals = s.signals ∧
    (s.closeStream k).takeover = s.takeover ∧ (s.closeStream k).guide = s.guide ∧
    (s.closeStream k).overlay = s.overlay ∧ (s.closeStream k).sound = s.sound ∧
    (s.closeStream k).chimes = s.chimes ∧ (s.closeStream k).tables = s.tables ∧
    (s.closeStream k).interp = s.interp ∧ (s.closeStream k).loader = s.loader ∧
    (s.closeStream k).flash = s.flash ∧ (s.closeStream k).ports = s.ports ∧
    (s.closeStream k).freeCount = s.freeCount ∧ (s.closeStream k).pending = s.pending := by
  and_intros
  all_goals
    unfold State.closeStream
    repeat' split
    all_goals simp_all

@[simp] theorem dropChime_frame (s : State) (o : Option (Fin 16)) :
    (s.dropChime o).link = s.link ∧ (s.dropChime o).cameraLocked = s.cameraLocked ∧
    (s.dropChime o).streams = s.streams ∧ (s.dropChime o).screens = s.screens ∧
    (s.dropChime o).signals = s.signals ∧ (s.dropChime o).takeover = s.takeover ∧
    (s.dropChime o).guide = s.guide ∧ (s.dropChime o).overlay = s.overlay ∧
    (s.dropChime o).sound = s.sound ∧ (s.dropChime o).chimes = s.chimes ∧
    (s.dropChime o).tables = s.tables ∧ (s.dropChime o).loader = s.loader ∧
    (s.dropChime o).flash = s.flash ∧ (s.dropChime o).ports = s.ports ∧
    (s.dropChime o).freeCount = s.freeCount ∧ (s.dropChime o).pending = s.pending := by
  and_intros
  all_goals
    unfold State.dropChime
    repeat' split
    all_goals simp_all

@[simp] theorem mergeChime_frame (s : State) (p : Fin 16) (x : Pattern) :
    (s.mergeChime p x).link = s.link ∧ (s.mergeChime p x).cameraLocked = s.cameraLocked ∧
    (s.mergeChime p x).streams = s.streams ∧ (s.mergeChime p x).screens = s.screens ∧
    (s.mergeChime p x).signals = s.signals ∧ (s.mergeChime p x).takeover = s.takeover ∧
    (s.mergeChime p x).guide = s.guide ∧ (s.mergeChime p x).overlay = s.overlay ∧
    (s.mergeChime p x).sound = s.sound ∧ (s.mergeChime p x).tables = s.tables ∧
    (s.mergeChime p x).interp = s.interp ∧ (s.mergeChime p x).loader = s.loader ∧
    (s.mergeChime p x).flash = s.flash ∧ (s.mergeChime p x).ports = s.ports ∧
    (s.mergeChime p x).freeCount = s.freeCount ∧ (s.mergeChime p x).pending = s.pending := by
  and_intros
  all_goals
    unfold State.mergeChime
    repeat' split
    all_goals simp_all

@[simp] theorem queueChime_frame (s : State) (p : Fin 16) (x : Pattern) :
    (s.queueChime p x).2.link = s.link ∧ (s.queueChime p x).2.cameraLocked = s.cameraLocked ∧
    (s.queueChime p x).2.streams = s.streams ∧ (s.queueChime p x).2.screens = s.screens ∧
    (s.queueChime p x).2.signals = s.signals ∧ (s.queueChime p x).2.takeover = s.takeover ∧
    (s.queueChime p x).2.guide = s.guide ∧ (s.queueChime p x).2.overlay = s.overlay ∧
    (s.queueChime p x).2.sound = s.sound ∧ (s.queueChime p x).2.tables = s.tables ∧
    (s.queueChime p x).2.loader = s.loader ∧ (s.queueChime p x).2.flash = s.flash ∧
    (s.queueChime p x).2.ports = s.ports ∧ (s.queueChime p x).2.freeCount = s.freeCount ∧
    (s.queueChime p x).2.pending = s.pending := by
  and_intros
  all_goals
    simp only [State.queueChime]
    repeat' split
    all_goals simp

@[simp] theorem requestChime_frame (s : State) (p : Fin 16) :
    (s.requestChime p).2.link = s.link ∧ (s.requestChime p).2.cameraLocked = s.cameraLocked ∧
    (s.requestChime p).2.streams = s.streams ∧ (s.requestChime p).2.screens = s.screens ∧
    (s.requestChime p).2.signals = s.signals ∧ (s.requestChime p).2.takeover = s.takeover ∧
    (s.requestChime p).2.guide = s.guide ∧ (s.requestChime p).2.overlay = s.overlay ∧
    (s.requestChime p).2.sound = s.sound ∧ (s.requestChime p).2.tables = s.tables ∧
    (s.requestChime p).2.loader = s.loader ∧ (s.requestChime p).2.flash = s.flash ∧
    (s.requestChime p).2.ports = s.ports ∧ (s.requestChime p).2.freeCount = s.freeCount ∧
    (s.requestChime p).2.pending = s.pending := by
  and_intros
  all_goals
    unfold State.requestChime
    repeat' split
    all_goals simp_all

@[simp] theorem judgePark_frame (s : State) :
    (s.judgePark).link = s.link ∧ (s.judgePark).cameraLocked = s.cameraLocked ∧
    (s.judgePark).streams = s.streams ∧ (s.judgePark).screens = s.screens ∧
    (s.judgePark).signals = s.signals ∧ (s.judgePark).takeover = s.takeover ∧
    (s.judgePark).guide = s.guide ∧ (s.judgePark).overlay = s.overlay ∧ (s.judgePark).sound = s.sound ∧
    (s.judgePark).tables = s.tables ∧ (s.judgePark).loader = s.loader ∧ (s.judgePark).flash = s.flash ∧
    (s.judgePark).ports = s.ports ∧ (s.judgePark).freeCount = s.freeCount ∧
    (s.judgePark).pending = s.pending := by
  and_intros
  all_goals
    simp only [State.judgePark]
    repeat' split
    all_goals simp

@[simp] theorem setTakeoverState_frame (s : State) (x : TakeoverState) :
    (s.setTakeoverState x).link = s.link ∧ (s.setTakeoverState x).cameraLocked = s.cameraLocked ∧
    (s.setTakeoverState x).streams = s.streams ∧ (s.setTakeoverState x).screens = s.screens ∧
    (s.setTakeoverState x).signals = s.signals ∧ (s.setTakeoverState x).guide = s.guide ∧
    (s.setTakeoverState x).overlay = s.overlay ∧ (s.setTakeoverState x).sound = s.sound ∧
    (s.setTakeoverState x).chimes = s.chimes ∧ (s.setTakeoverState x).tables = s.tables ∧
    (s.setTakeoverState x).interp = s.interp ∧ (s.setTakeoverState x).loader = s.loader ∧
    (s.setTakeoverState x).flash = s.flash ∧ (s.setTakeoverState x).ports = s.ports ∧
    (s.setTakeoverState x).freeCount = s.freeCount ∧ (s.setTakeoverState x).pending = s.pending := by
  and_intros
  all_goals
    unfold State.setTakeoverState
    repeat' split
    all_goals simp_all

@[simp] theorem timingByCamera_frame (s : State) :
    (s.timingByCamera).link = s.link ∧ (s.timingByCamera).cameraLocked = s.cameraLocked ∧
    (s.timingByCamera).streams = s.streams ∧ (s.timingByCamera).signals = s.signals ∧
    (s.timingByCamera).takeover = s.takeover ∧ (s.timingByCamera).guide = s.guide ∧
    (s.timingByCamera).overlay = s.overlay ∧ (s.timingByCamera).sound = s.sound ∧
    (s.timingByCamera).chimes = s.chimes ∧ (s.timingByCamera).tables = s.tables ∧
    (s.timingByCamera).interp = s.interp ∧ (s.timingByCamera).loader = s.loader ∧
    (s.timingByCamera).flash = s.flash ∧ (s.timingByCamera).ports = s.ports ∧
    (s.timingByCamera).freeCount = s.freeCount ∧ (s.timingByCamera).pending = s.pending := by
  and_intros
  all_goals
    unfold State.timingByCamera
    repeat' split
    all_goals simp_all

@[simp] theorem switchIn_frame (s : State) (c : Claim) (b : Bool) :
    (s.switchIn c b).link = s.link ∧ (s.switchIn c b).cameraLocked = s.cameraLocked ∧
    (s.switchIn c b).signals = s.signals ∧ (s.switchIn c b).guide = s.guide ∧
    (s.switchIn c b).overlay = s.overlay ∧ (s.switchIn c b).sound = s.sound ∧
    (s.switchIn c b).tables = s.tables ∧ (s.switchIn c b).loader = s.loader ∧
    (s.switchIn c b).flash = s.flash ∧ (s.switchIn c b).ports = s.ports ∧
    (s.switchIn c b).freeCount = s.freeCount ∧ (s.switchIn c b).pending = s.pending := by
  and_intros
  all_goals
    simp only [State.switchIn]
    repeat' split
    all_goals simp

@[simp] theorem switchOut_frame (s : State) :
    (s.switchOut).link = s.link ∧ (s.switchOut).cameraLocked = s.cameraLocked ∧
    (s.switchOut).signals = s.signals ∧ (s.switchOut).guide = s.guide ∧
    (s.switchOut).overlay = s.overlay ∧ (s.switchOut).sound = s.sound ∧
    (s.switchOut).chimes = s.chimes ∧ (s.switchOut).tables = s.tables ∧
    (s.switchOut).interp = s.interp ∧ (s.switchOut).loader = s.loader ∧ (s.switchOut).flash = s.flash ∧
    (s.switchOut).ports = s.ports ∧ (s.switchOut).freeCount = s.freeCount ∧
    (s.switchOut).pending = s.pending := by
  and_intros
  all_goals
    unfold State.switchOut
    repeat' split
    all_goals simp_all

@[simp] theorem enterLinger_frame (s : State) :
    (s.enterLinger).link = s.link ∧ (s.enterLinger).cameraLocked = s.cameraLocked ∧
    (s.enterLinger).streams = s.streams ∧ (s.enterLinger).screens = s.screens ∧
    (s.enterLinger).signals = s.signals ∧ (s.enterLinger).guide = s.guide ∧
    (s.enterLinger).overlay = s.overlay ∧ (s.enterLinger).sound = s.sound ∧
    (s.enterLinger).chimes = s.chimes ∧ (s.enterLinger).tables = s.tables ∧
    (s.enterLinger).interp = s.interp ∧ (s.enterLinger).loader = s.loader ∧
    (s.enterLinger).flash = s.flash ∧ (s.enterLinger).ports = s.ports ∧
    (s.enterLinger).freeCount = s.freeCount ∧ (s.enterLinger).pending = s.pending := by
  and_intros
  all_goals
    unfold State.enterLinger
    repeat' split
    all_goals simp_all

@[simp] theorem claimAdded_frame (s : State) (c : Claim) (b : Bool) :
    (s.claimAdded c b).link = s.link ∧ (s.claimAdded c b).cameraLocked = s.cameraLocked ∧
    (s.claimAdded c b).signals = s.signals ∧ (s.claimAdded c b).guide = s.guide ∧
    (s.claimAdded c b).overlay = s.overlay ∧ (s.claimAdded c b).sound = s.sound ∧
    (s.claimAdded c b).tables = s.tables ∧ (s.claimAdded c b).loader = s.loader ∧
    (s.claimAdded c b).flash = s.flash ∧ (s.claimAdded c b).ports = s.ports ∧
    (s.claimAdded c b).freeCount = s.freeCount ∧ (s.claimAdded c b).pending = s.pending := by
  and_intros
  all_goals
    unfold State.claimAdded
    repeat' split
    all_goals simp_all

@[simp] theorem claimsEmptied_frame (s : State) (c : Claim) :
    (s.claimsEmptied c).link = s.link ∧ (s.claimsEmptied c).cameraLocked = s.cameraLocked ∧
    (s.claimsEmptied c).signals = s.signals ∧ (s.claimsEmptied c).guide = s.guide ∧
    (s.claimsEmptied c).overlay = s.overlay ∧ (s.claimsEmptied c).sound = s.sound ∧
    (s.claimsEmptied c).chimes = s.chimes ∧ (s.claimsEmptied c).tables = s.tables ∧
    (s.claimsEmptied c).interp = s.interp ∧ (s.claimsEmptied c).loader = s.loader ∧
    (s.claimsEmptied c).flash = s.flash ∧ (s.claimsEmptied c).ports = s.ports ∧
    (s.claimsEmptied c).freeCount = s.freeCount ∧ (s.claimsEmptied c).pending = s.pending := by
  and_intros
  all_goals
    unfold State.claimsEmptied
    repeat' split
    all_goals simp_all

@[simp] theorem claimRemoved_frame (s : State) (c : Claim) :
    (s.claimRemoved c).link = s.link ∧ (s.claimRemoved c).cameraLocked = s.cameraLocked ∧
    (s.claimRemoved c).signals = s.signals ∧ (s.claimRemoved c).guide = s.guide ∧
    (s.claimRemoved c).overlay = s.overlay ∧ (s.claimRemoved c).sound = s.sound ∧
    (s.claimRemoved c).chimes = s.chimes ∧ (s.claimRemoved c).tables = s.tables ∧
    (s.claimRemoved c).interp = s.interp ∧ (s.claimRemoved c).loader = s.loader ∧
    (s.claimRemoved c).flash = s.flash ∧ (s.claimRemoved c).ports = s.ports ∧
    (s.claimRemoved c).freeCount = s.freeCount ∧ (s.claimRemoved c).pending = s.pending := by
  and_intros
  all_goals
    unfold State.claimRemoved
    repeat' split
    all_goals simp_all

@[simp] theorem reverseEdge_frame (s : State) (l : Level) :
    (s.reverseEdge l).link = s.link ∧ (s.reverseEdge l).cameraLocked = s.cameraLocked ∧
    (s.reverseEdge l).signals = s.signals ∧ (s.reverseEdge l).guide = s.guide ∧
    (s.reverseEdge l).overlay = s.overlay ∧ (s.reverseEdge l).sound = s.sound ∧
    (s.reverseEdge l).tables = s.tables ∧ (s.reverseEdge l).loader = s.loader ∧
    (s.reverseEdge l).flash = s.flash ∧ (s.reverseEdge l).ports = s.ports ∧
    (s.reverseEdge l).freeCount = s.freeCount ∧ (s.reverseEdge l).pending = s.pending := by
  and_intros
  all_goals
    unfold State.reverseEdge
    repeat' split
    all_goals simp_all

@[simp] theorem speedChanged_frame (s : State) :
    (s.speedChanged).link = s.link ∧ (s.speedChanged).cameraLocked = s.cameraLocked ∧
    (s.speedChanged).signals = s.signals ∧ (s.speedChanged).guide = s.guide ∧
    (s.speedChanged).overlay = s.overlay ∧ (s.speedChanged).sound = s.sound ∧
    (s.speedChanged).chimes = s.chimes ∧ (s.speedChanged).tables = s.tables ∧
    (s.speedChanged).loader = s.loader ∧ (s.speedChanged).flash = s.flash ∧
    (s.speedChanged).ports = s.ports ∧ (s.speedChanged).freeCount = s.freeCount ∧
    (s.speedChanged).pending = s.pending := by
  and_intros
  all_goals
    simp only [State.speedChanged]
    repeat' split
    all_goals simp

@[simp] theorem completeSwitchOut_frame (s : State) :
    (s.completeSwitchOut).link = s.link ∧ (s.completeSwitchOut).cameraLocked = s.cameraLocked ∧
    (s.completeSwitchOut).streams = s.streams ∧ (s.completeSwitchOut).signals = s.signals ∧
    (s.completeSwitchOut).guide = s.guide ∧ (s.completeSwitchOut).overlay = s.overlay ∧
    (s.completeSwitchOut).sound = s.sound ∧ (s.completeSwitchOut).chimes = s.chimes ∧
    (s.completeSwitchOut).tables = s.tables ∧ (s.completeSwitchOut).loader = s.loader ∧
    (s.completeSwitchOut).flash = s.flash ∧ (s.completeSwitchOut).ports = s.ports ∧
    (s.completeSwitchOut).freeCount = s.freeCount ∧ (s.completeSwitchOut).pending = s.pending := by
  and_intros
  all_goals
    unfold State.completeSwitchOut
    repeat' split
    all_goals simp_all

@[simp] theorem takeoverAtFrame_frame (s : State) :
    (s.takeoverAtFrame).link = s.link ∧ (s.takeoverAtFrame).cameraLocked = s.cameraLocked ∧
    (s.takeoverAtFrame).streams = s.streams ∧ (s.takeoverAtFrame).signals = s.signals ∧
    (s.takeoverAtFrame).guide = s.guide ∧ (s.takeoverAtFrame).overlay = s.overlay ∧
    (s.takeoverAtFrame).sound = s.sound ∧ (s.takeoverAtFrame).chimes = s.chimes ∧
    (s.takeoverAtFrame).tables = s.tables ∧ (s.takeoverAtFrame).loader = s.loader ∧
    (s.takeoverAtFrame).flash = s.flash ∧ (s.takeoverAtFrame).ports = s.ports ∧
    (s.takeoverAtFrame).freeCount = s.freeCount ∧ (s.takeoverAtFrame).pending = s.pending := by
  and_intros
  all_goals
    unfold State.takeoverAtFrame
    repeat' split
    all_goals simp_all

@[simp] theorem givePresentation_frame (s : State) :
    (s.givePresentation).link = s.link ∧ (s.givePresentation).cameraLocked = s.cameraLocked ∧
    (s.givePresentation).streams = s.streams ∧ (s.givePresentation).screens = s.screens ∧
    (s.givePresentation).signals = s.signals ∧ (s.givePresentation).guide = s.guide ∧
    (s.givePresentation).overlay = s.overlay ∧ (s.givePresentation).sound = s.sound ∧
    (s.givePresentation).chimes = s.chimes ∧ (s.givePresentation).tables = s.tables ∧
    (s.givePresentation).interp = s.interp ∧ (s.givePresentation).loader = s.loader ∧
    (s.givePresentation).flash = s.flash ∧ (s.givePresentation).ports = s.ports ∧
    (s.givePresentation).freeCount = s.freeCount ∧ (s.givePresentation).pending = s.pending := by
  and_intros
  all_goals
    unfold State.givePresentation
    repeat' split
    all_goals simp_all

@[simp] theorem takeoverFrameStart_frame (s : State) :
    (s.takeoverFrameStart).link = s.link ∧ (s.takeoverFrameStart).cameraLocked = s.cameraLocked ∧
    (s.takeoverFrameStart).streams = s.streams ∧ (s.takeoverFrameStart).signals = s.signals ∧
    (s.takeoverFrameStart).guide = s.guide ∧ (s.takeoverFrameStart).overlay = s.overlay ∧
    (s.takeoverFrameStart).sound = s.sound ∧ (s.takeoverFrameStart).chimes = s.chimes ∧
    (s.takeoverFrameStart).tables = s.tables ∧ (s.takeoverFrameStart).loader = s.loader ∧
    (s.takeoverFrameStart).flash = s.flash ∧ (s.takeoverFrameStart).ports = s.ports ∧
    (s.takeoverFrameStart).freeCount = s.freeCount ∧ (s.takeoverFrameStart).pending = s.pending := by
  and_intros
  all_goals
    unfold State.takeoverFrameStart
    repeat' split
    all_goals simp_all

@[simp] theorem sourceChanged_frame (s : State) (a b : Option StreamId) :
    (s.sourceChanged a b).link = s.link ∧ (s.sourceChanged a b).cameraLocked = s.cameraLocked ∧
 (s.sourceChanged a b).signals = s.signals ∧
    (s.sourceChanged a b).takeover = s.takeover ∧ (s.sourceChanged a b).guide = s.guide ∧
    (s.sourceChanged a b).overlay = s.overlay ∧ (s.sourceChanged a b).sound = s.sound ∧
    (s.sourceChanged a b).chimes = s.chimes ∧ (s.sourceChanged a b).tables = s.tables ∧
    (s.sourceChanged a b).interp = s.interp ∧ (s.sourceChanged a b).loader = s.loader ∧
    (s.sourceChanged a b).flash = s.flash ∧ (s.sourceChanged a b).ports = s.ports ∧
    (s.sourceChanged a b).freeCount = s.freeCount ∧ (s.sourceChanged a b).pending = s.pending := by
  and_intros
  all_goals
    unfold State.sourceChanged
    repeat' split
    all_goals simp_all

@[simp] theorem startTakeover_frame (s : State) (t : TakeoverSettings) :
    (s.startTakeover t).link = s.link ∧ (s.startTakeover t).cameraLocked = s.cameraLocked ∧
    (s.startTakeover t).signals = s.signals ∧ (s.startTakeover t).guide = s.guide ∧
    (s.startTakeover t).overlay = s.overlay ∧ (s.startTakeover t).sound = s.sound ∧
    (s.startTakeover t).tables = s.tables ∧ (s.startTakeover t).loader = s.loader ∧
    (s.startTakeover t).flash = s.flash ∧ (s.startTakeover t).ports = s.ports ∧
    (s.startTakeover t).freeCount = s.freeCount ∧ (s.startTakeover t).pending = s.pending := by
  and_intros
  all_goals
    simp only [State.startTakeover]
    repeat' split
    all_goals simp

@[simp] theorem overSignals_frame (s : State) (f : SignalUnit → SignalUnit) :
    (s.overSignals f).link = s.link ∧ (s.overSignals f).cameraLocked = s.cameraLocked ∧
    (s.overSignals f).streams = s.streams ∧ (s.overSignals f).screens = s.screens ∧
    (s.overSignals f).takeover = s.takeover ∧ (s.overSignals f).guide = s.guide ∧
    (s.overSignals f).overlay = s.overlay ∧ (s.overSignals f).sound = s.sound ∧
    (s.overSignals f).chimes = s.chimes ∧ (s.overSignals f).tables = s.tables ∧
    (s.overSignals f).interp = s.interp ∧ (s.overSignals f).loader = s.loader ∧
    (s.overSignals f).flash = s.flash ∧ (s.overSignals f).ports = s.ports ∧
    (s.overSignals f).freeCount = s.freeCount ∧ (s.overSignals f).pending = s.pending := by
  and_intros
  all_goals
    unfold State.overSignals
    repeat' split
    all_goals simp_all

@[simp] theorem reworkRequest_frame (s : State) :
    (s.reworkRequest).link = s.link ∧ (s.reworkRequest).cameraLocked = s.cameraLocked ∧
    (s.reworkRequest).guide = s.guide ∧ (s.reworkRequest).overlay = s.overlay ∧
    (s.reworkRequest).sound = s.sound ∧ (s.reworkRequest).tables = s.tables ∧
    (s.reworkRequest).loader = s.loader ∧ (s.reworkRequest).flash = s.flash ∧
    (s.reworkRequest).ports = s.ports ∧ (s.reworkRequest).freeCount = s.freeCount ∧
    (s.reworkRequest).pending = s.pending := by
  and_intros
  all_goals
    simp only [State.reworkRequest]
    repeat' split
    all_goals simp

@[simp] theorem reworkNearest_frame (s : State) :
    (s.reworkNearest).link = s.link ∧ (s.reworkNearest).cameraLocked = s.cameraLocked ∧
    (s.reworkNearest).streams = s.streams ∧ (s.reworkNearest).screens = s.screens ∧
    (s.reworkNearest).takeover = s.takeover ∧ (s.reworkNearest).guide = s.guide ∧
    (s.reworkNearest).overlay = s.overlay ∧ (s.reworkNearest).sound = s.sound ∧
    (s.reworkNearest).tables = s.tables ∧ (s.reworkNearest).loader = s.loader ∧
    (s.reworkNearest).flash = s.flash ∧ (s.reworkNearest).ports = s.ports ∧
    (s.reworkNearest).freeCount = s.freeCount ∧ (s.reworkNearest).pending = s.pending := by
  and_intros
  all_goals
    simp only [State.reworkNearest]
    repeat' split
    all_goals simp

@[simp] theorem handChanges_frame (s : State) (u : SignalUnit) :
    (s.handChanges u).link = s.link ∧ (s.handChanges u).cameraLocked = s.cameraLocked ∧
    (s.handChanges u).guide = s.guide ∧ (s.handChanges u).overlay = s.overlay ∧
    (s.handChanges u).sound = s.sound ∧ (s.handChanges u).tables = s.tables ∧
    (s.handChanges u).loader = s.loader ∧ (s.handChanges u).flash = s.flash ∧
    (s.handChanges u).ports = s.ports ∧ (s.handChanges u).freeCount = s.freeCount ∧
    (s.handChanges u).pending = s.pending := by
  and_intros
  all_goals
    simp only [State.handChanges]
    repeat' split
    all_goals simp

@[simp] theorem takeCanFrame_frame (s : State) (f : CanFrame) :
    (s.takeCanFrame f).link = s.link ∧ (s.takeCanFrame f).cameraLocked = s.cameraLocked ∧
    (s.takeCanFrame f).guide = s.guide ∧ (s.takeCanFrame f).overlay = s.overlay ∧
    (s.takeCanFrame f).sound = s.sound ∧ (s.takeCanFrame f).tables = s.tables ∧
    (s.takeCanFrame f).loader = s.loader ∧ (s.takeCanFrame f).flash = s.flash ∧
    (s.takeCanFrame f).ports = s.ports ∧ (s.takeCanFrame f).freeCount = s.freeCount ∧
    (s.takeCanFrame f).pending = s.pending := by
  and_intros
  all_goals
    unfold State.takeCanFrame
    repeat' split
    all_goals simp_all

@[simp] theorem applySignals_frame (s : State) (x : SignalSettings) (m : Tab (Option SignalEntry) 7) :
    (s.applySignals x m).link = s.link ∧ (s.applySignals x m).cameraLocked = s.cameraLocked ∧
    (s.applySignals x m).guide = s.guide ∧ (s.applySignals x m).overlay = s.overlay ∧
    (s.applySignals x m).sound = s.sound ∧ (s.applySignals x m).tables = s.tables ∧
    (s.applySignals x m).loader = s.loader ∧ (s.applySignals x m).flash = s.flash ∧
    (s.applySignals x m).ports = s.ports ∧ (s.applySignals x m).freeCount = s.freeCount ∧
    (s.applySignals x m).pending = s.pending := by
  and_intros
  all_goals
    unfold State.applySignals
    repeat' split
    all_goals simp_all

@[simp] theorem placeEntry_frame (s : State) (t : Target) (e : Option SignalEntry) :
    (s.placeEntry t e).link = s.link ∧ (s.placeEntry t e).cameraLocked = s.cameraLocked ∧
    (s.placeEntry t e).guide = s.guide ∧ (s.placeEntry t e).overlay = s.overlay ∧
    (s.placeEntry t e).sound = s.sound ∧ (s.placeEntry t e).tables = s.tables ∧
    (s.placeEntry t e).loader = s.loader ∧ (s.placeEntry t e).flash = s.flash ∧
    (s.placeEntry t e).ports = s.ports ∧ (s.placeEntry t e).freeCount = s.freeCount ∧
    (s.placeEntry t e).pending = s.pending := by
  and_intros
  all_goals
    unfold State.placeEntry
    repeat' split
    all_goals simp_all

@[simp] theorem setItem_frame (s : State) (g : Group) (o : Option Item) :
    (s.setItem g o).link = s.link ∧ (s.setItem g o).cameraLocked = s.cameraLocked ∧
    (s.setItem g o).streams = s.streams ∧ (s.setItem g o).screens = s.screens ∧
    (s.setItem g o).signals = s.signals ∧ (s.setItem g o).takeover = s.takeover ∧
    (s.setItem g o).guide = s.guide ∧ (s.setItem g o).overlay = s.overlay ∧
    (s.setItem g o).sound = s.sound ∧ (s.setItem g o).chimes = s.chimes ∧
    (s.setItem g o).interp = s.interp ∧ (s.setItem g o).loader = s.loader ∧
    (s.setItem g o).flash = s.flash ∧ (s.setItem g o).ports = s.ports ∧
    (s.setItem g o).freeCount = s.freeCount ∧ (s.setItem g o).pending = s.pending := by
  and_intros
  all_goals
    unfold State.setItem
    repeat' split
    all_goals simp_all

@[simp] theorem leave_frame
    (s : State) (g : Group) (i : Item) (o : CommitOutcome) (f : Option FrameRef) :
    (s.leave g i o f).link = s.link ∧ (s.leave g i o f).cameraLocked = s.cameraLocked ∧
    (s.leave g i o f).streams = s.streams ∧ (s.leave g i o f).screens = s.screens ∧
    (s.leave g i o f).signals = s.signals ∧ (s.leave g i o f).takeover = s.takeover ∧
    (s.leave g i o f).guide = s.guide ∧ (s.leave g i o f).overlay = s.overlay ∧
    (s.leave g i o f).sound = s.sound ∧ (s.leave g i o f).chimes = s.chimes ∧
    (s.leave g i o f).interp = s.interp ∧ (s.leave g i o f).loader = s.loader ∧
    (s.leave g i o f).flash = s.flash ∧ (s.leave g i o f).ports = s.ports ∧
    (s.leave g i o f).freeCount = s.freeCount ∧ (s.leave g i o f).pending = s.pending := by
  and_intros
  all_goals
    unfold State.leave
    repeat' split
    all_goals simp_all

@[simp] theorem screenApplied_frame (s : State) (g : Group) (i : Item) (k : ScreenId) (f : FrameRef) :
    (s.screenApplied g i k f).link = s.link ∧ (s.screenApplied g i k f).cameraLocked = s.cameraLocked ∧
    (s.screenApplied g i k f).streams = s.streams ∧ (s.screenApplied g i k f).screens = s.screens ∧
    (s.screenApplied g i k f).signals = s.signals ∧ (s.screenApplied g i k f).takeover = s.takeover ∧
    (s.screenApplied g i k f).guide = s.guide ∧ (s.screenApplied g i k f).overlay = s.overlay ∧
    (s.screenApplied g i k f).sound = s.sound ∧ (s.screenApplied g i k f).chimes = s.chimes ∧
    (s.screenApplied g i k f).interp = s.interp ∧ (s.screenApplied g i k f).loader = s.loader ∧
    (s.screenApplied g i k f).flash = s.flash ∧ (s.screenApplied g i k f).ports = s.ports ∧
    (s.screenApplied g i k f).freeCount = s.freeCount ∧
    (s.screenApplied g i k f).pending = s.pending := by
  and_intros
  all_goals
    simp only [State.screenApplied]
    repeat' split
    all_goals simp

@[simp] theorem dropItem_frame (s : State) (g : Group) :
    (s.dropItem g).link = s.link ∧ (s.dropItem g).cameraLocked = s.cameraLocked ∧
    (s.dropItem g).streams = s.streams ∧ (s.dropItem g).screens = s.screens ∧
    (s.dropItem g).signals = s.signals ∧ (s.dropItem g).takeover = s.takeover ∧
    (s.dropItem g).guide = s.guide ∧ (s.dropItem g).overlay = s.overlay ∧
    (s.dropItem g).sound = s.sound ∧ (s.dropItem g).chimes = s.chimes ∧
    (s.dropItem g).interp = s.interp ∧ (s.dropItem g).loader = s.loader ∧
    (s.dropItem g).flash = s.flash ∧ (s.dropItem g).ports = s.ports ∧
    (s.dropItem g).freeCount = s.freeCount ∧ (s.dropItem g).pending = s.pending := by
  and_intros
  all_goals
    unfold State.dropItem
    repeat' split
    all_goals simp_all

@[simp] theorem takeGroup_frame (s : State) (p : ControlPacket) (m : FlagSet 3) (g : Group) :
    (s.takeGroup p m g).2.link = s.link ∧ (s.takeGroup p m g).2.cameraLocked = s.cameraLocked ∧
    (s.takeGroup p m g).2.streams = s.streams ∧ (s.takeGroup p m g).2.screens = s.screens ∧
    (s.takeGroup p m g).2.signals = s.signals ∧ (s.takeGroup p m g).2.takeover = s.takeover ∧
    (s.takeGroup p m g).2.guide = s.guide ∧ (s.takeGroup p m g).2.overlay = s.overlay ∧
    (s.takeGroup p m g).2.sound = s.sound ∧ (s.takeGroup p m g).2.chimes = s.chimes ∧
    (s.takeGroup p m g).2.interp = s.interp ∧ (s.takeGroup p m g).2.loader = s.loader ∧
    (s.takeGroup p m g).2.flash = s.flash ∧ (s.takeGroup p m g).2.ports = s.ports ∧
    (s.takeGroup p m g).2.freeCount = s.freeCount ∧ (s.takeGroup p m g).2.pending = s.pending := by
  and_intros
  all_goals
    unfold State.takeGroup
    repeat' split
    all_goals simp_all

@[simp] theorem takeGroups_frame (s : State) (p : ControlPacket) (m : FlagSet 3) (gs : List Group) :
    (s.takeGroups p m gs).2.link = s.link ∧ (s.takeGroups p m gs).2.cameraLocked = s.cameraLocked ∧
    (s.takeGroups p m gs).2.streams = s.streams ∧ (s.takeGroups p m gs).2.screens = s.screens ∧
    (s.takeGroups p m gs).2.signals = s.signals ∧ (s.takeGroups p m gs).2.takeover = s.takeover ∧
    (s.takeGroups p m gs).2.guide = s.guide ∧ (s.takeGroups p m gs).2.overlay = s.overlay ∧
    (s.takeGroups p m gs).2.sound = s.sound ∧ (s.takeGroups p m gs).2.chimes = s.chimes ∧
    (s.takeGroups p m gs).2.interp = s.interp ∧ (s.takeGroups p m gs).2.loader = s.loader ∧
    (s.takeGroups p m gs).2.flash = s.flash ∧ (s.takeGroups p m gs).2.ports = s.ports ∧
    (s.takeGroups p m gs).2.freeCount = s.freeCount ∧ (s.takeGroups p m gs).2.pending = s.pending := by
  induction gs generalizing s with
  | nil => simp [State.takeGroups]
  | cons g gs ih => simp [State.takeGroups, ih]

@[simp] theorem overSound_frame (s : State) (f : SoundUnit → SoundUnit) :
    (s.overSound f).link = s.link ∧ (s.overSound f).cameraLocked = s.cameraLocked ∧
    (s.overSound f).streams = s.streams ∧ (s.overSound f).screens = s.screens ∧
    (s.overSound f).signals = s.signals ∧ (s.overSound f).takeover = s.takeover ∧
    (s.overSound f).guide = s.guide ∧ (s.overSound f).overlay = s.overlay ∧
    (s.overSound f).chimes = s.chimes ∧ (s.overSound f).tables = s.tables ∧
    (s.overSound f).interp = s.interp ∧ (s.overSound f).loader = s.loader ∧
    (s.overSound f).flash = s.flash ∧ (s.overSound f).ports = s.ports ∧
    (s.overSound f).freeCount = s.freeCount ∧ (s.overSound f).pending = s.pending := by
  and_intros
  all_goals
    unfold State.overSound
    repeat' split
    all_goals simp_all

@[simp] theorem setFifo_frame (s : State) (k : Fin 4) (f : Fifo) :
    (s.setFifo k f).link = s.link ∧ (s.setFifo k f).cameraLocked = s.cameraLocked ∧
    (s.setFifo k f).streams = s.streams ∧ (s.setFifo k f).screens = s.screens ∧
    (s.setFifo k f).signals = s.signals ∧ (s.setFifo k f).takeover = s.takeover ∧
    (s.setFifo k f).guide = s.guide ∧ (s.setFifo k f).overlay = s.overlay ∧
    (s.setFifo k f).chimes = s.chimes ∧ (s.setFifo k f).tables = s.tables ∧
    (s.setFifo k f).interp = s.interp ∧ (s.setFifo k f).loader = s.loader ∧
    (s.setFifo k f).flash = s.flash ∧ (s.setFifo k f).ports = s.ports ∧
    (s.setFifo k f).freeCount = s.freeCount ∧ (s.setFifo k f).pending = s.pending := by
  and_intros
  all_goals
    unfold State.setFifo
    repeat' split
    all_goals simp_all

@[simp] theorem raiseSoundFault_frame (s : State) (k : Fin 4) :
    (s.raiseSoundFault k).link = s.link ∧ (s.raiseSoundFault k).cameraLocked = s.cameraLocked ∧
    (s.raiseSoundFault k).streams = s.streams ∧ (s.raiseSoundFault k).screens = s.screens ∧
    (s.raiseSoundFault k).signals = s.signals ∧ (s.raiseSoundFault k).takeover = s.takeover ∧
    (s.raiseSoundFault k).guide = s.guide ∧ (s.raiseSoundFault k).overlay = s.overlay ∧
    (s.raiseSoundFault k).sound = s.sound ∧ (s.raiseSoundFault k).chimes = s.chimes ∧
    (s.raiseSoundFault k).tables = s.tables ∧ (s.raiseSoundFault k).loader = s.loader ∧
    (s.raiseSoundFault k).flash = s.flash ∧ (s.raiseSoundFault k).ports = s.ports ∧
    (s.raiseSoundFault k).freeCount = s.freeCount ∧ (s.raiseSoundFault k).pending = s.pending := by
  and_intros
  all_goals
    unfold State.raiseSoundFault
    repeat' split
    all_goals simp_all

@[simp] theorem takeSoundPacket_frame (s : State) (p : SoundPacket) :
    (s.takeSoundPacket p).cameraLocked = s.cameraLocked ∧ (s.takeSoundPacket p).streams = s.streams ∧
    (s.takeSoundPacket p).screens = s.screens ∧ (s.takeSoundPacket p).signals = s.signals ∧
    (s.takeSoundPacket p).takeover = s.takeover ∧ (s.takeSoundPacket p).guide = s.guide ∧
    (s.takeSoundPacket p).overlay = s.overlay ∧ (s.takeSoundPacket p).chimes = s.chimes ∧
    (s.takeSoundPacket p).tables = s.tables ∧ (s.takeSoundPacket p).loader = s.loader ∧
    (s.takeSoundPacket p).flash = s.flash ∧ (s.takeSoundPacket p).ports = s.ports ∧
    (s.takeSoundPacket p).freeCount = s.freeCount ∧ (s.takeSoundPacket p).pending = s.pending := by
  and_intros
  all_goals
    simp only [State.takeSoundPacket]
    repeat' split
    all_goals simp

@[simp] theorem readFifo_frame (s : State) (k : Fin 4) :
    (s.readFifo k).cameraLocked = s.cameraLocked ∧ (s.readFifo k).streams = s.streams ∧
    (s.readFifo k).screens = s.screens ∧ (s.readFifo k).signals = s.signals ∧
    (s.readFifo k).takeover = s.takeover ∧ (s.readFifo k).guide = s.guide ∧
    (s.readFifo k).overlay = s.overlay ∧ (s.readFifo k).chimes = s.chimes ∧
    (s.readFifo k).tables = s.tables ∧ (s.readFifo k).interp = s.interp ∧
    (s.readFifo k).loader = s.loader ∧ (s.readFifo k).flash = s.flash ∧ (s.readFifo k).ports = s.ports ∧
    (s.readFifo k).freeCount = s.freeCount ∧ (s.readFifo k).pending = s.pending := by
  and_intros
  all_goals
    simp only [State.readFifo]
    repeat' split
    all_goals simp

@[simp] theorem clipOutput_frame (s : State) (y : Int) (o : Fin 8) :
    (s.clipOutput y o).link = s.link ∧ (s.clipOutput y o).cameraLocked = s.cameraLocked ∧
    (s.clipOutput y o).streams = s.streams ∧ (s.clipOutput y o).screens = s.screens ∧
    (s.clipOutput y o).signals = s.signals ∧ (s.clipOutput y o).takeover = s.takeover ∧
    (s.clipOutput y o).guide = s.guide ∧ (s.clipOutput y o).overlay = s.overlay ∧
    (s.clipOutput y o).chimes = s.chimes ∧ (s.clipOutput y o).tables = s.tables ∧
    (s.clipOutput y o).loader = s.loader ∧ (s.clipOutput y o).flash = s.flash ∧
    (s.clipOutput y o).ports = s.ports ∧ (s.clipOutput y o).freeCount = s.freeCount ∧
    (s.clipOutput y o).pending = s.pending := by
  and_intros
  all_goals
    unfold State.clipOutput
    repeat' split
    all_goals simp_all

@[simp] theorem tickTimers_frame (s : State) :
    (s.tickTimers).link = s.link ∧ (s.tickTimers).cameraLocked = s.cameraLocked ∧
    (s.tickTimers).guide = s.guide ∧ (s.tickTimers).overlay = s.overlay ∧
    (s.tickTimers).sound = s.sound ∧ (s.tickTimers).chimes = s.chimes ∧
    (s.tickTimers).tables = s.tables ∧ (s.tickTimers).interp = s.interp ∧
    (s.tickTimers).loader = s.loader ∧ (s.tickTimers).flash = s.flash ∧ (s.tickTimers).ports = s.ports ∧
    (s.tickTimers).freeCount = s.freeCount ∧ (s.tickTimers).pending = s.pending := by
  and_intros
  all_goals
    unfold State.tickTimers
    repeat' split
    all_goals simp_all

@[simp] theorem applyMix_frame (s : State) :
    (s.applyMix).link = s.link ∧ (s.applyMix).cameraLocked = s.cameraLocked ∧
    (s.applyMix).streams = s.streams ∧ (s.applyMix).screens = s.screens ∧
    (s.applyMix).signals = s.signals ∧ (s.applyMix).takeover = s.takeover ∧
    (s.applyMix).guide = s.guide ∧ (s.applyMix).overlay = s.overlay ∧ (s.applyMix).chimes = s.chimes ∧
    (s.applyMix).interp = s.interp ∧ (s.applyMix).loader = s.loader ∧ (s.applyMix).flash = s.flash ∧
    (s.applyMix).ports = s.ports ∧ (s.applyMix).freeCount = s.freeCount ∧
    (s.applyMix).pending = s.pending := by
  and_intros
  all_goals
    unfold State.applyMix
    repeat' split
    all_goals simp_all

@[simp] theorem overScreen_frame (s : State) (k : ScreenId) (f : ScreenUnit → ScreenUnit) :
    (s.overScreen k f).link = s.link ∧ (s.overScreen k f).cameraLocked = s.cameraLocked ∧
    (s.overScreen k f).streams = s.streams ∧ (s.overScreen k f).signals = s.signals ∧
    (s.overScreen k f).takeover = s.takeover ∧ (s.overScreen k f).guide = s.guide ∧
    (s.overScreen k f).overlay = s.overlay ∧ (s.overScreen k f).sound = s.sound ∧
    (s.overScreen k f).chimes = s.chimes ∧ (s.overScreen k f).tables = s.tables ∧
    (s.overScreen k f).interp = s.interp ∧ (s.overScreen k f).loader = s.loader ∧
    (s.overScreen k f).flash = s.flash ∧ (s.overScreen k f).ports = s.ports ∧
    (s.overScreen k f).freeCount = s.freeCount ∧ (s.overScreen k f).pending = s.pending := by
  and_intros
  all_goals
    unfold State.overScreen
    repeat' split
    all_goals simp_all

@[simp] theorem commitScreen_frame (s : State) (k : ScreenId) :
    (s.commitScreen k).link = s.link ∧ (s.commitScreen k).cameraLocked = s.cameraLocked ∧
    (s.commitScreen k).signals = s.signals ∧ (s.commitScreen k).takeover = s.takeover ∧
    (s.commitScreen k).guide = s.guide ∧ (s.commitScreen k).overlay = s.overlay ∧
    (s.commitScreen k).sound = s.sound ∧ (s.commitScreen k).chimes = s.chimes ∧
    (s.commitScreen k).interp = s.interp ∧ (s.commitScreen k).loader = s.loader ∧
    (s.commitScreen k).flash = s.flash ∧ (s.commitScreen k).ports = s.ports ∧
    (s.commitScreen k).freeCount = s.freeCount ∧ (s.commitScreen k).pending = s.pending := by
  and_intros
  all_goals
    simp only [State.commitScreen]
    repeat' split
    all_goals simp

@[simp] theorem countFrame_frame (s : State) (k : ScreenId) :
    (s.countFrame k).link = s.link ∧ (s.countFrame k).cameraLocked = s.cameraLocked ∧
    (s.countFrame k).streams = s.streams ∧ (s.countFrame k).signals = s.signals ∧
    (s.countFrame k).takeover = s.takeover ∧ (s.countFrame k).guide = s.guide ∧
    (s.countFrame k).overlay = s.overlay ∧ (s.countFrame k).sound = s.sound ∧
    (s.countFrame k).chimes = s.chimes ∧ (s.countFrame k).tables = s.tables ∧
    (s.countFrame k).interp = s.interp ∧ (s.countFrame k).loader = s.loader ∧
    (s.countFrame k).flash = s.flash ∧ (s.countFrame k).ports = s.ports ∧
    (s.countFrame k).freeCount = s.freeCount ∧ (s.countFrame k).pending = s.pending := by
  and_intros
  all_goals
    unfold State.countFrame
    repeat' split
    all_goals simp_all

@[simp] theorem trimSource_frame (s : State) (k : ScreenId) :
    (s.trimSource k).link = s.link ∧ (s.trimSource k).cameraLocked = s.cameraLocked ∧
    (s.trimSource k).screens = s.screens ∧ (s.trimSource k).signals = s.signals ∧
    (s.trimSource k).takeover = s.takeover ∧ (s.trimSource k).guide = s.guide ∧
    (s.trimSource k).overlay = s.overlay ∧ (s.trimSource k).sound = s.sound ∧
    (s.trimSource k).chimes = s.chimes ∧ (s.trimSource k).tables = s.tables ∧
    (s.trimSource k).interp = s.interp ∧ (s.trimSource k).loader = s.loader ∧
    (s.trimSource k).flash = s.flash ∧ (s.trimSource k).ports = s.ports ∧
    (s.trimSource k).freeCount = s.freeCount ∧ (s.trimSource k).pending = s.pending := by
  and_intros
  all_goals
    unfold State.trimSource
    repeat' split
    all_goals simp_all

@[simp] theorem openFrame_frame (s : State) (k : ScreenId) :
    (s.openFrame k).link = s.link ∧ (s.openFrame k).cameraLocked = s.cameraLocked ∧
    (s.openFrame k).signals = s.signals ∧ (s.openFrame k).takeover = s.takeover ∧
    (s.openFrame k).guide = s.guide ∧ (s.openFrame k).overlay = s.overlay ∧
    (s.openFrame k).sound = s.sound ∧ (s.openFrame k).chimes = s.chimes ∧
    (s.openFrame k).tables = s.tables ∧ (s.openFrame k).interp = s.interp ∧
    (s.openFrame k).loader = s.loader ∧ (s.openFrame k).flash = s.flash ∧
    (s.openFrame k).ports = s.ports ∧ (s.openFrame k).freeCount = s.freeCount ∧
    (s.openFrame k).pending = s.pending := by
  and_intros
  all_goals
    unfold State.openFrame
    repeat' split
    all_goals simp_all

@[simp] theorem commitGuide_frame (s : State) (f : FrameRef) :
    (s.commitGuide f).link = s.link ∧ (s.commitGuide f).cameraLocked = s.cameraLocked ∧
    (s.commitGuide f).streams = s.streams ∧ (s.commitGuide f).screens = s.screens ∧
    (s.commitGuide f).signals = s.signals ∧ (s.commitGuide f).takeover = s.takeover ∧
    (s.commitGuide f).overlay = s.overlay ∧ (s.commitGuide f).sound = s.sound ∧
    (s.commitGuide f).chimes = s.chimes ∧ (s.commitGuide f).loader = s.loader ∧
    (s.commitGuide f).flash = s.flash ∧ (s.commitGuide f).ports = s.ports ∧
    (s.commitGuide f).freeCount = s.freeCount ∧ (s.commitGuide f).pending = s.pending := by
  and_intros
  all_goals
    unfold State.commitGuide
    repeat' split
    all_goals simp_all

@[simp] theorem guideFrame_frame (s : State) (f : FrameRef) :
    (s.guideFrame f).link = s.link ∧ (s.guideFrame f).cameraLocked = s.cameraLocked ∧
    (s.guideFrame f).streams = s.streams ∧ (s.guideFrame f).screens = s.screens ∧
    (s.guideFrame f).signals = s.signals ∧ (s.guideFrame f).takeover = s.takeover ∧
    (s.guideFrame f).overlay = s.overlay ∧ (s.guideFrame f).sound = s.sound ∧
    (s.guideFrame f).chimes = s.chimes ∧ (s.guideFrame f).loader = s.loader ∧
    (s.guideFrame f).flash = s.flash ∧ (s.guideFrame f).ports = s.ports ∧
    (s.guideFrame f).freeCount = s.freeCount ∧ (s.guideFrame f).pending = s.pending := by
  and_intros
  all_goals
    unfold State.guideFrame
    repeat' split
    all_goals simp_all

@[simp] theorem commitPalettes_frame (s : State) (k : ScreenId) (f : FrameRef) :
    (s.commitPalettes k f).link = s.link ∧ (s.commitPalettes k f).cameraLocked = s.cameraLocked ∧
    (s.commitPalettes k f).streams = s.streams ∧ (s.commitPalettes k f).screens = s.screens ∧
    (s.commitPalettes k f).signals = s.signals ∧ (s.commitPalettes k f).takeover = s.takeover ∧
    (s.commitPalettes k f).guide = s.guide ∧ (s.commitPalettes k f).sound = s.sound ∧
    (s.commitPalettes k f).chimes = s.chimes ∧ (s.commitPalettes k f).interp = s.interp ∧
    (s.commitPalettes k f).loader = s.loader ∧ (s.commitPalettes k f).flash = s.flash ∧
    (s.commitPalettes k f).ports = s.ports ∧ (s.commitPalettes k f).freeCount = s.freeCount ∧
    (s.commitPalettes k f).pending = s.pending := by
  and_intros
  all_goals
    unfold State.commitPalettes
    repeat' split
    all_goals simp_all

@[simp] theorem commitObjects_frame (s : State) (k : ScreenId) (f : FrameRef) :
    (s.commitObjects k f).link = s.link ∧ (s.commitObjects k f).cameraLocked = s.cameraLocked ∧
    (s.commitObjects k f).streams = s.streams ∧ (s.commitObjects k f).screens = s.screens ∧
    (s.commitObjects k f).signals = s.signals ∧ (s.commitObjects k f).takeover = s.takeover ∧
    (s.commitObjects k f).guide = s.guide ∧ (s.commitObjects k f).sound = s.sound ∧
    (s.commitObjects k f).chimes = s.chimes ∧ (s.commitObjects k f).interp = s.interp ∧
    (s.commitObjects k f).loader = s.loader ∧ (s.commitObjects k f).flash = s.flash ∧
    (s.commitObjects k f).ports = s.ports ∧ (s.commitObjects k f).freeCount = s.freeCount ∧
    (s.commitObjects k f).pending = s.pending := by
  and_intros
  all_goals
    unfold State.commitObjects
    repeat' split
    all_goals simp_all

@[simp] theorem overlayFrame_frame (s : State) (k : ScreenId) (f : FrameRef) :
    (s.overlayFrame k f).link = s.link ∧ (s.overlayFrame k f).cameraLocked = s.cameraLocked ∧
    (s.overlayFrame k f).streams = s.streams ∧ (s.overlayFrame k f).screens = s.screens ∧
    (s.overlayFrame k f).signals = s.signals ∧ (s.overlayFrame k f).takeover = s.takeover ∧
    (s.overlayFrame k f).guide = s.guide ∧ (s.overlayFrame k f).sound = s.sound ∧
    (s.overlayFrame k f).chimes = s.chimes ∧ (s.overlayFrame k f).interp = s.interp ∧
    (s.overlayFrame k f).loader = s.loader ∧ (s.overlayFrame k f).flash = s.flash ∧
    (s.overlayFrame k f).ports = s.ports ∧ (s.overlayFrame k f).freeCount = s.freeCount ∧
    (s.overlayFrame k f).pending = s.pending := by
  and_intros
  all_goals
    unfold State.overlayFrame
    repeat' split
    all_goals simp_all

@[simp] theorem sendFrameMarker_frame (s : State) (k : ScreenId) :
    (s.sendFrameMarker k).cameraLocked = s.cameraLocked ∧ (s.sendFrameMarker k).streams = s.streams ∧
    (s.sendFrameMarker k).screens = s.screens ∧ (s.sendFrameMarker k).signals = s.signals ∧
    (s.sendFrameMarker k).takeover = s.takeover ∧ (s.sendFrameMarker k).guide = s.guide ∧
    (s.sendFrameMarker k).overlay = s.overlay ∧ (s.sendFrameMarker k).sound = s.sound ∧
    (s.sendFrameMarker k).chimes = s.chimes ∧ (s.sendFrameMarker k).tables = s.tables ∧
    (s.sendFrameMarker k).interp = s.interp ∧ (s.sendFrameMarker k).loader = s.loader ∧
    (s.sendFrameMarker k).flash = s.flash ∧ (s.sendFrameMarker k).ports = s.ports ∧
    (s.sendFrameMarker k).freeCount = s.freeCount ∧ (s.sendFrameMarker k).pending = s.pending := by
  and_intros
  all_goals
    unfold State.sendFrameMarker
    repeat' split
    all_goals simp_all

@[simp] theorem restartPeriod_frame (s : State) (k : ScreenId) :
    (s.restartPeriod k).link = s.link ∧ (s.restartPeriod k).cameraLocked = s.cameraLocked ∧
    (s.restartPeriod k).streams = s.streams ∧ (s.restartPeriod k).signals = s.signals ∧
    (s.restartPeriod k).takeover = s.takeover ∧ (s.restartPeriod k).guide = s.guide ∧
    (s.restartPeriod k).overlay = s.overlay ∧ (s.restartPeriod k).sound = s.sound ∧
    (s.restartPeriod k).chimes = s.chimes ∧ (s.restartPeriod k).tables = s.tables ∧
    (s.restartPeriod k).interp = s.interp ∧ (s.restartPeriod k).loader = s.loader ∧
    (s.restartPeriod k).flash = s.flash ∧ (s.restartPeriod k).ports = s.ports ∧
    (s.restartPeriod k).freeCount = s.freeCount ∧ (s.restartPeriod k).pending = s.pending := by
  and_intros
  all_goals
    unfold State.restartPeriod
    repeat' split
    all_goals simp_all

@[simp] theorem frameStart_frame (s : State) (k : ScreenId) :
    (s.frameStart k).cameraLocked = s.cameraLocked ∧ (s.frameStart k).signals = s.signals ∧
    (s.frameStart k).sound = s.sound ∧ (s.frameStart k).chimes = s.chimes ∧
    (s.frameStart k).loader = s.loader ∧ (s.frameStart k).flash = s.flash ∧
    (s.frameStart k).ports = s.ports ∧ (s.frameStart k).freeCount = s.freeCount ∧
    (s.frameStart k).pending = s.pending := by
  and_intros
  all_goals
    unfold State.frameStart
    repeat' split
    all_goals simp_all

@[simp] theorem setFrame_frame (s : State) (k : ScreenId) (f : FrameRec) :
    (s.setFrame k f).link = s.link ∧ (s.setFrame k f).cameraLocked = s.cameraLocked ∧
    (s.setFrame k f).streams = s.streams ∧ (s.setFrame k f).signals = s.signals ∧
    (s.setFrame k f).takeover = s.takeover ∧ (s.setFrame k f).guide = s.guide ∧
    (s.setFrame k f).overlay = s.overlay ∧ (s.setFrame k f).sound = s.sound ∧
    (s.setFrame k f).chimes = s.chimes ∧ (s.setFrame k f).tables = s.tables ∧
    (s.setFrame k f).interp = s.interp ∧ (s.setFrame k f).loader = s.loader ∧
    (s.setFrame k f).flash = s.flash ∧ (s.setFrame k f).ports = s.ports ∧
    (s.setFrame k f).freeCount = s.freeCount ∧ (s.setFrame k f).pending = s.pending := by
  and_intros
  all_goals
    unfold State.setFrame
    repeat' split
    all_goals simp_all

@[simp] theorem takeRow_frame
    (s : State) (k : ScreenId) (f : FrameRec) (j : StreamId) (w : Window) (r : Nat) :
    (s.takeRow k f j w r).1.link = s.link ∧ (s.takeRow k f j w r).1.cameraLocked = s.cameraLocked ∧
    (s.takeRow k f j w r).1.signals = s.signals ∧ (s.takeRow k f j w r).1.takeover = s.takeover ∧
    (s.takeRow k f j w r).1.guide = s.guide ∧ (s.takeRow k f j w r).1.overlay = s.overlay ∧
    (s.takeRow k f j w r).1.sound = s.sound ∧ (s.takeRow k f j w r).1.chimes = s.chimes ∧
    (s.takeRow k f j w r).1.tables = s.tables ∧ (s.takeRow k f j w r).1.interp = s.interp ∧
    (s.takeRow k f j w r).1.loader = s.loader ∧ (s.takeRow k f j w r).1.flash = s.flash ∧
    (s.takeRow k f j w r).1.ports = s.ports ∧ (s.takeRow k f j w r).1.pending = s.pending := by
  and_intros
  all_goals
    simp only [State.takeRow]
    repeat' split
    all_goals simp

@[simp] theorem rowBase_frame (s : State) (k : ScreenId) (f : FrameRec) (r : Nat) :
    (s.rowBase k f r).1.link = s.link ∧ (s.rowBase k f r).1.cameraLocked = s.cameraLocked ∧
    (s.rowBase k f r).1.signals = s.signals ∧ (s.rowBase k f r).1.takeover = s.takeover ∧
    (s.rowBase k f r).1.guide = s.guide ∧ (s.rowBase k f r).1.overlay = s.overlay ∧
    (s.rowBase k f r).1.sound = s.sound ∧ (s.rowBase k f r).1.chimes = s.chimes ∧
    (s.rowBase k f r).1.tables = s.tables ∧ (s.rowBase k f r).1.interp = s.interp ∧
    (s.rowBase k f r).1.loader = s.loader ∧ (s.rowBase k f r).1.flash = s.flash ∧
    (s.rowBase k f r).1.ports = s.ports ∧ (s.rowBase k f r).1.pending = s.pending := by
  and_intros
  all_goals
    unfold State.rowBase
    repeat' split
    all_goals simp_all

@[simp] theorem sendRow_frame (s : State) (k : ScreenId) (r : Nat) (ps : List RGB) :
    (s.sendRow k r ps).link = s.link ∧ (s.sendRow k r ps).cameraLocked = s.cameraLocked ∧
    (s.sendRow k r ps).streams = s.streams ∧ (s.sendRow k r ps).screens = s.screens ∧
    (s.sendRow k r ps).signals = s.signals ∧ (s.sendRow k r ps).takeover = s.takeover ∧
    (s.sendRow k r ps).guide = s.guide ∧ (s.sendRow k r ps).overlay = s.overlay ∧
    (s.sendRow k r ps).sound = s.sound ∧ (s.sendRow k r ps).chimes = s.chimes ∧
    (s.sendRow k r ps).tables = s.tables ∧ (s.sendRow k r ps).interp = s.interp ∧
    (s.sendRow k r ps).loader = s.loader ∧ (s.sendRow k r ps).flash = s.flash ∧
    (s.sendRow k r ps).freeCount = s.freeCount ∧ (s.sendRow k r ps).pending = s.pending := by
  and_intros
  all_goals
    unfold State.sendRow
    repeat' split
    all_goals simp_all

@[simp] theorem advanceRow_frame (s : State) (k : ScreenId) (r : Nat) :
    (s.advanceRow k r).link = s.link ∧ (s.advanceRow k r).cameraLocked = s.cameraLocked ∧
    (s.advanceRow k r).streams = s.streams ∧ (s.advanceRow k r).signals = s.signals ∧
    (s.advanceRow k r).takeover = s.takeover ∧ (s.advanceRow k r).guide = s.guide ∧
    (s.advanceRow k r).overlay = s.overlay ∧ (s.advanceRow k r).sound = s.sound ∧
    (s.advanceRow k r).chimes = s.chimes ∧ (s.advanceRow k r).tables = s.tables ∧
    (s.advanceRow k r).interp = s.interp ∧ (s.advanceRow k r).loader = s.loader ∧
    (s.advanceRow k r).flash = s.flash ∧ (s.advanceRow k r).ports = s.ports ∧
    (s.advanceRow k r).freeCount = s.freeCount ∧ (s.advanceRow k r).pending = s.pending := by
  and_intros
  all_goals
    unfold State.advanceRow
    repeat' split
    all_goals simp_all

@[simp] theorem countOverflow_frame (s : State) (k : ScreenId) :
    (s.countOverflow k).link = s.link ∧ (s.countOverflow k).cameraLocked = s.cameraLocked ∧
    (s.countOverflow k).streams = s.streams ∧ (s.countOverflow k).screens = s.screens ∧
    (s.countOverflow k).signals = s.signals ∧ (s.countOverflow k).takeover = s.takeover ∧
    (s.countOverflow k).guide = s.guide ∧ (s.countOverflow k).sound = s.sound ∧
    (s.countOverflow k).chimes = s.chimes ∧ (s.countOverflow k).tables = s.tables ∧
    (s.countOverflow k).loader = s.loader ∧ (s.countOverflow k).flash = s.flash ∧
    (s.countOverflow k).ports = s.ports ∧ (s.countOverflow k).freeCount = s.freeCount ∧
    (s.countOverflow k).pending = s.pending := by
  and_intros
  all_goals
    simp only [State.countOverflow]
    repeat' split
    all_goals simp

@[simp] theorem lineDemand_frame (s : State) (k : ScreenId) (f : FrameRec) :
    (s.lineDemand k f).link = s.link ∧ (s.lineDemand k f).cameraLocked = s.cameraLocked ∧
    (s.lineDemand k f).signals = s.signals ∧ (s.lineDemand k f).takeover = s.takeover ∧
    (s.lineDemand k f).guide = s.guide ∧ (s.lineDemand k f).sound = s.sound ∧
    (s.lineDemand k f).chimes = s.chimes ∧ (s.lineDemand k f).tables = s.tables ∧
    (s.lineDemand k f).loader = s.loader ∧ (s.lineDemand k f).flash = s.flash ∧
    (s.lineDemand k f).pending = s.pending := by
  and_intros
  all_goals
    simp only [State.lineDemand]
    repeat' split
    all_goals simp

@[simp] theorem writeSet_frame (s : State) (k : Fin 17) (g : GuideSet) :
    (s.writeSet k g).link = s.link ∧ (s.writeSet k g).cameraLocked = s.cameraLocked ∧
    (s.writeSet k g).streams = s.streams ∧ (s.writeSet k g).screens = s.screens ∧
    (s.writeSet k g).signals = s.signals ∧ (s.writeSet k g).takeover = s.takeover ∧
    (s.writeSet k g).overlay = s.overlay ∧ (s.writeSet k g).sound = s.sound ∧
    (s.writeSet k g).chimes = s.chimes ∧ (s.writeSet k g).tables = s.tables ∧
    (s.writeSet k g).interp = s.interp ∧ (s.writeSet k g).loader = s.loader ∧
    (s.writeSet k g).flash = s.flash ∧ (s.writeSet k g).ports = s.ports ∧
    (s.writeSet k g).freeCount = s.freeCount ∧ (s.writeSet k g).pending = s.pending := by
  and_intros
  all_goals
    unfold State.writeSet
    repeat' split
    all_goals simp_all

@[simp] theorem discardBack_frame (s : State) :
    (s.discardBack).cameraLocked = s.cameraLocked ∧ (s.discardBack).streams = s.streams ∧
    (s.discardBack).screens = s.screens ∧ (s.discardBack).signals = s.signals ∧
    (s.discardBack).takeover = s.takeover ∧ (s.discardBack).guide = s.guide ∧
    (s.discardBack).overlay = s.overlay ∧ (s.discardBack).sound = s.sound ∧
    (s.discardBack).chimes = s.chimes ∧ (s.discardBack).tables = s.tables ∧
    (s.discardBack).interp = s.interp ∧ (s.discardBack).loader = s.loader ∧
    (s.discardBack).flash = s.flash ∧ (s.discardBack).ports = s.ports ∧
    (s.discardBack).freeCount = s.freeCount ∧ (s.discardBack).pending = s.pending := by
  and_intros
  all_goals
    unfold State.discardBack
    repeat' split
    all_goals simp_all

@[simp] theorem loseCabinLink_frame (s : State) :
    (s.loseCabinLink).cameraLocked = s.cameraLocked ∧ (s.loseCabinLink).screens = s.screens ∧
    (s.loseCabinLink).signals = s.signals ∧ (s.loseCabinLink).takeover = s.takeover ∧
    (s.loseCabinLink).guide = s.guide ∧ (s.loseCabinLink).overlay = s.overlay ∧
    (s.loseCabinLink).sound = s.sound ∧ (s.loseCabinLink).chimes = s.chimes ∧
    (s.loseCabinLink).tables = s.tables ∧ (s.loseCabinLink).loader = s.loader ∧
    (s.loseCabinLink).flash = s.flash ∧ (s.loseCabinLink).ports = s.ports ∧
    (s.loseCabinLink).freeCount = s.freeCount ∧ (s.loseCabinLink).pending = s.pending := by
  and_intros
  all_goals
    simp [State.loseCabinLink, cabinStreams]

@[simp] theorem countBadFrame_frame (s : State) :
    (s.countBadFrame).cameraLocked = s.cameraLocked ∧ (s.countBadFrame).screens = s.screens ∧
    (s.countBadFrame).signals = s.signals ∧ (s.countBadFrame).takeover = s.takeover ∧
    (s.countBadFrame).guide = s.guide ∧ (s.countBadFrame).overlay = s.overlay ∧
    (s.countBadFrame).sound = s.sound ∧ (s.countBadFrame).chimes = s.chimes ∧
    (s.countBadFrame).tables = s.tables ∧ (s.countBadFrame).loader = s.loader ∧
    (s.countBadFrame).flash = s.flash ∧ (s.countBadFrame).ports = s.ports ∧
    (s.countBadFrame).freeCount = s.freeCount ∧ (s.countBadFrame).pending = s.pending := by
  and_intros
  all_goals
    unfold State.countBadFrame
    repeat' split
    all_goals simp_all

@[simp] theorem takeControlPacket_frame (s : State) (p : ControlPacket) :
    (s.takeControlPacket p).link = s.link ∧ (s.takeControlPacket p).cameraLocked = s.cameraLocked ∧
    (s.takeControlPacket p).streams = s.streams ∧ (s.takeControlPacket p).screens = s.screens ∧
    (s.takeControlPacket p).signals = s.signals ∧ (s.takeControlPacket p).takeover = s.takeover ∧
    (s.takeControlPacket p).guide = s.guide ∧ (s.takeControlPacket p).overlay = s.overlay ∧
    (s.takeControlPacket p).sound = s.sound ∧ (s.takeControlPacket p).chimes = s.chimes ∧
    (s.takeControlPacket p).tables = s.tables ∧ (s.takeControlPacket p).loader = s.loader ∧
    (s.takeControlPacket p).flash = s.flash ∧ (s.takeControlPacket p).ports = s.ports ∧
    (s.takeControlPacket p).freeCount = s.freeCount ∧ (s.takeControlPacket p).pending = s.pending := by
  and_intros
  all_goals
    unfold State.takeControlPacket
    repeat' split
    all_goals simp_all

@[simp] theorem writeFlash_frame (s : State) (a : Nat) (bs : List Byte) :
    (s.writeFlash a bs).link = s.link ∧ (s.writeFlash a bs).cameraLocked = s.cameraLocked ∧
    (s.writeFlash a bs).streams = s.streams ∧ (s.writeFlash a bs).screens = s.screens ∧
    (s.writeFlash a bs).signals = s.signals ∧ (s.writeFlash a bs).takeover = s.takeover ∧
    (s.writeFlash a bs).guide = s.guide ∧ (s.writeFlash a bs).overlay = s.overlay ∧
    (s.writeFlash a bs).sound = s.sound ∧ (s.writeFlash a bs).chimes = s.chimes ∧
    (s.writeFlash a bs).tables = s.tables ∧ (s.writeFlash a bs).interp = s.interp ∧
    (s.writeFlash a bs).loader = s.loader ∧ (s.writeFlash a bs).ports = s.ports ∧
    (s.writeFlash a bs).freeCount = s.freeCount ∧ (s.writeFlash a bs).pending = s.pending := by
  and_intros
  all_goals
    unfold State.writeFlash
    repeat' split
    all_goals simp_all

@[simp] theorem setSingle_frame (s : State) (k : SingleKind) (r : RecordResult) :
    (s.setSingle k r).link = s.link ∧ (s.setSingle k r).cameraLocked = s.cameraLocked ∧
    (s.setSingle k r).streams = s.streams ∧ (s.setSingle k r).screens = s.screens ∧
    (s.setSingle k r).signals = s.signals ∧ (s.setSingle k r).takeover = s.takeover ∧
    (s.setSingle k r).guide = s.guide ∧ (s.setSingle k r).overlay = s.overlay ∧
    (s.setSingle k r).sound = s.sound ∧ (s.setSingle k r).chimes = s.chimes ∧
    (s.setSingle k r).tables = s.tables ∧ (s.setSingle k r).interp = s.interp ∧
    (s.setSingle k r).flash = s.flash ∧ (s.setSingle k r).ports = s.ports ∧
    (s.setSingle k r).freeCount = s.freeCount ∧ (s.setSingle k r).pending = s.pending := by
  and_intros
  all_goals
    unfold State.setSingle
    repeat' split
    all_goals simp_all

@[simp] theorem setImage_frame (s : State) (k : Fin 8) (r : RecordResult) :
    (s.setImage k r).link = s.link ∧ (s.setImage k r).cameraLocked = s.cameraLocked ∧
    (s.setImage k r).streams = s.streams ∧ (s.setImage k r).screens = s.screens ∧
    (s.setImage k r).signals = s.signals ∧ (s.setImage k r).takeover = s.takeover ∧
    (s.setImage k r).guide = s.guide ∧ (s.setImage k r).overlay = s.overlay ∧
    (s.setImage k r).sound = s.sound ∧ (s.setImage k r).chimes = s.chimes ∧
    (s.setImage k r).tables = s.tables ∧ (s.setImage k r).interp = s.interp ∧
    (s.setImage k r).flash = s.flash ∧ (s.setImage k r).ports = s.ports ∧
    (s.setImage k r).freeCount = s.freeCount ∧ (s.setImage k r).pending = s.pending := by
  and_intros
  all_goals
    unfold State.setImage
    repeat' split
    all_goals simp_all

@[simp] theorem absentImages_frame (s : State) :
    (s.absentImages).link = s.link ∧ (s.absentImages).cameraLocked = s.cameraLocked ∧
    (s.absentImages).streams = s.streams ∧ (s.absentImages).screens = s.screens ∧
    (s.absentImages).signals = s.signals ∧ (s.absentImages).takeover = s.takeover ∧
    (s.absentImages).guide = s.guide ∧ (s.absentImages).overlay = s.overlay ∧
    (s.absentImages).sound = s.sound ∧ (s.absentImages).chimes = s.chimes ∧
    (s.absentImages).tables = s.tables ∧ (s.absentImages).interp = s.interp ∧
    (s.absentImages).flash = s.flash ∧ (s.absentImages).ports = s.ports ∧
    (s.absentImages).freeCount = s.freeCount ∧ (s.absentImages).pending = s.pending := by
  and_intros
  all_goals
    unfold State.absentImages
    repeat' split
    all_goals simp_all

@[simp] theorem faultKind_frame (s : State) (k : SingleKind) :
    (s.faultKind k).link = s.link ∧ (s.faultKind k).cameraLocked = s.cameraLocked ∧
    (s.faultKind k).streams = s.streams ∧ (s.faultKind k).screens = s.screens ∧
    (s.faultKind k).signals = s.signals ∧ (s.faultKind k).takeover = s.takeover ∧
    (s.faultKind k).guide = s.guide ∧ (s.faultKind k).overlay = s.overlay ∧
    (s.faultKind k).sound = s.sound ∧ (s.faultKind k).chimes = s.chimes ∧
    (s.faultKind k).tables = s.tables ∧ (s.faultKind k).loader = s.loader ∧
    (s.faultKind k).flash = s.flash ∧ (s.faultKind k).ports = s.ports ∧
    (s.faultKind k).freeCount = s.freeCount ∧ (s.faultKind k).pending = s.pending := by
  and_intros
  all_goals
    unfold State.faultKind
    repeat' split
    all_goals simp_all

@[simp] theorem faultImage_frame (s : State) :
    (s.faultImage).link = s.link ∧ (s.faultImage).cameraLocked = s.cameraLocked ∧
    (s.faultImage).streams = s.streams ∧ (s.faultImage).screens = s.screens ∧
    (s.faultImage).signals = s.signals ∧ (s.faultImage).takeover = s.takeover ∧
    (s.faultImage).guide = s.guide ∧ (s.faultImage).overlay = s.overlay ∧
    (s.faultImage).sound = s.sound ∧ (s.faultImage).chimes = s.chimes ∧
    (s.faultImage).tables = s.tables ∧ (s.faultImage).loader = s.loader ∧
    (s.faultImage).flash = s.flash ∧ (s.faultImage).ports = s.ports ∧
    (s.faultImage).freeCount = s.freeCount ∧ (s.faultImage).pending = s.pending := by
  and_intros
  all_goals
    unfold State.faultImage
    repeat' split
    all_goals simp_all

@[simp] theorem startScreen_frame (s : State) (k : ScreenId) :
    (s.startScreen k).link = s.link ∧ (s.startScreen k).cameraLocked = s.cameraLocked ∧
    (s.startScreen k).streams = s.streams ∧ (s.startScreen k).signals = s.signals ∧
    (s.startScreen k).takeover = s.takeover ∧ (s.startScreen k).guide = s.guide ∧
    (s.startScreen k).overlay = s.overlay ∧ (s.startScreen k).sound = s.sound ∧
    (s.startScreen k).chimes = s.chimes ∧ (s.startScreen k).tables = s.tables ∧
    (s.startScreen k).interp = s.interp ∧ (s.startScreen k).loader = s.loader ∧
    (s.startScreen k).flash = s.flash ∧ (s.startScreen k).ports = s.ports ∧
    (s.startScreen k).freeCount = s.freeCount ∧ (s.startScreen k).pending = s.pending := by
  and_intros
  all_goals
    unfold State.startScreen
    repeat' split
    all_goals simp_all

@[simp] theorem startAction_frame (s : State) (k : SingleKind) :
    (s.startAction k).link = s.link ∧ (s.startAction k).cameraLocked = s.cameraLocked ∧
    (s.startAction k).signals = s.signals ∧ (s.startAction k).guide = s.guide ∧
    (s.startAction k).overlay = s.overlay ∧ (s.startAction k).sound = s.sound ∧
    (s.startAction k).tables = s.tables ∧ (s.startAction k).loader = s.loader ∧
    (s.startAction k).flash = s.flash ∧ (s.startAction k).ports = s.ports ∧
    (s.startAction k).freeCount = s.freeCount ∧ (s.startAction k).pending = s.pending := by
  and_intros
  all_goals
    cases k <;> simp [State.startAction]

@[simp] theorem passKind_frame (s : State) (r : RecordResult) (k : SingleKind) :
    (State.passKind r s k).link = s.link ∧ (State.passKind r s k).cameraLocked = s.cameraLocked ∧
    (State.passKind r s k).signals = s.signals ∧ (State.passKind r s k).guide = s.guide ∧
    (State.passKind r s k).overlay = s.overlay ∧ (State.passKind r s k).sound = s.sound ∧
    (State.passKind r s k).tables = s.tables ∧ (State.passKind r s k).flash = s.flash ∧
    (State.passKind r s k).ports = s.ports ∧ (State.passKind r s k).freeCount = s.freeCount ∧
    (State.passKind r s k).pending = s.pending := by
  and_intros
  all_goals
    unfold State.passKind
    repeat' split
    all_goals simp_all

@[simp] theorem foldl_passKind_frame (s : State) (r : RecordResult) (ks : List SingleKind) :
    (ks.foldl (State.passKind r) s).link = s.link ∧
    (ks.foldl (State.passKind r) s).cameraLocked = s.cameraLocked ∧
    (ks.foldl (State.passKind r) s).signals = s.signals ∧
    (ks.foldl (State.passKind r) s).guide = s.guide ∧
    (ks.foldl (State.passKind r) s).overlay = s.overlay ∧
    (ks.foldl (State.passKind r) s).sound = s.sound ∧
    (ks.foldl (State.passKind r) s).tables = s.tables ∧
    (ks.foldl (State.passKind r) s).flash = s.flash ∧ (ks.foldl (State.passKind r) s).ports = s.ports ∧
    (ks.foldl (State.passKind r) s).freeCount = s.freeCount ∧
    (ks.foldl (State.passKind r) s).pending = s.pending := by
  induction ks generalizing s with
  | nil => simp
  | cons k ks ih => simp [List.foldl_cons, ih]

@[simp] theorem moveTo_frame (s : State) (p : Nat) :
    (s.moveTo p).link = s.link ∧ (s.moveTo p).cameraLocked = s.cameraLocked ∧
    (s.moveTo p).streams = s.streams ∧ (s.moveTo p).screens = s.screens ∧
    (s.moveTo p).signals = s.signals ∧ (s.moveTo p).takeover = s.takeover ∧
    (s.moveTo p).guide = s.guide ∧ (s.moveTo p).overlay = s.overlay ∧ (s.moveTo p).sound = s.sound ∧
    (s.moveTo p).chimes = s.chimes ∧ (s.moveTo p).tables = s.tables ∧ (s.moveTo p).interp = s.interp ∧
    (s.moveTo p).flash = s.flash ∧ (s.moveTo p).ports = s.ports ∧ (s.moveTo p).freeCount = s.freeCount ∧
    (s.moveTo p).pending = s.pending := by
  and_intros
  all_goals
    unfold State.moveTo
    repeat' split
    all_goals simp_all

@[simp] theorem passTo_frame (s : State) (lo hi : Nat) :
    (s.passTo lo hi).link = s.link ∧ (s.passTo lo hi).cameraLocked = s.cameraLocked ∧
    (s.passTo lo hi).signals = s.signals ∧ (s.passTo lo hi).guide = s.guide ∧
    (s.passTo lo hi).overlay = s.overlay ∧ (s.passTo lo hi).sound = s.sound ∧
    (s.passTo lo hi).tables = s.tables ∧ (s.passTo lo hi).flash = s.flash ∧
    (s.passTo lo hi).ports = s.ports ∧ (s.passTo lo hi).freeCount = s.freeCount ∧
    (s.passTo lo hi).pending = s.pending := by
  and_intros
  all_goals
    unfold State.passTo
    repeat' split
    all_goals simp_all

@[simp] theorem finishLoading_frame (s : State) (lo : Nat) (r : RecordResult) :
    (s.finishLoading lo r).link = s.link ∧ (s.finishLoading lo r).cameraLocked = s.cameraLocked ∧
    (s.finishLoading lo r).signals = s.signals ∧ (s.finishLoading lo r).guide = s.guide ∧
    (s.finishLoading lo r).overlay = s.overlay ∧ (s.finishLoading lo r).sound = s.sound ∧
    (s.finishLoading lo r).tables = s.tables ∧ (s.finishLoading lo r).flash = s.flash ∧
    (s.finishLoading lo r).ports = s.ports ∧ (s.finishLoading lo r).freeCount = s.freeCount ∧
    (s.finishLoading lo r).pending = s.pending := by
  and_intros
  all_goals
    unfold State.finishLoading
    repeat' split
    all_goals simp_all

@[simp] theorem continueAt_frame (s : State) (p : Nat) :
    (s.continueAt p).link = s.link ∧ (s.continueAt p).cameraLocked = s.cameraLocked ∧
    (s.continueAt p).signals = s.signals ∧ (s.continueAt p).guide = s.guide ∧
    (s.continueAt p).overlay = s.overlay ∧ (s.continueAt p).sound = s.sound ∧
    (s.continueAt p).tables = s.tables ∧ (s.continueAt p).flash = s.flash ∧
    (s.continueAt p).ports = s.ports ∧ (s.continueAt p).freeCount = s.freeCount ∧
    (s.continueAt p).pending = s.pending := by
  and_intros
  all_goals
    unfold State.continueAt
    repeat' split
    all_goals simp_all

@[simp] theorem applyScreen_frame (s : State) (k : ScreenId) (r : ScreenRecord) :
    (s.applyScreen k r).link = s.link ∧ (s.applyScreen k r).cameraLocked = s.cameraLocked ∧
    (s.applyScreen k r).streams = s.streams ∧ (s.applyScreen k r).signals = s.signals ∧
    (s.applyScreen k r).takeover = s.takeover ∧ (s.applyScreen k r).guide = s.guide ∧
    (s.applyScreen k r).overlay = s.overlay ∧ (s.applyScreen k r).sound = s.sound ∧
    (s.applyScreen k r).chimes = s.chimes ∧ (s.applyScreen k r).tables = s.tables ∧
    (s.applyScreen k r).interp = s.interp ∧ (s.applyScreen k r).loader = s.loader ∧
    (s.applyScreen k r).flash = s.flash ∧ (s.applyScreen k r).ports = s.ports ∧
    (s.applyScreen k r).freeCount = s.freeCount ∧ (s.applyScreen k r).pending = s.pending := by
  and_intros
  all_goals
    unfold State.applyScreen
    repeat' split
    all_goals simp_all

@[simp] theorem markImage_frame (s : State) (o : Option Nat) (r : RecordResult) :
    (s.markImage o r).link = s.link ∧ (s.markImage o r).cameraLocked = s.cameraLocked ∧
    (s.markImage o r).streams = s.streams ∧ (s.markImage o r).screens = s.screens ∧
    (s.markImage o r).signals = s.signals ∧ (s.markImage o r).takeover = s.takeover ∧
    (s.markImage o r).guide = s.guide ∧ (s.markImage o r).overlay = s.overlay ∧
    (s.markImage o r).sound = s.sound ∧ (s.markImage o r).chimes = s.chimes ∧
    (s.markImage o r).tables = s.tables ∧ (s.markImage o r).interp = s.interp ∧
    (s.markImage o r).flash = s.flash ∧ (s.markImage o r).ports = s.ports ∧
    (s.markImage o r).freeCount = s.freeCount ∧ (s.markImage o r).pending = s.pending := by
  and_intros
  all_goals
    unfold State.markImage
    repeat' split
    all_goals simp_all

@[simp] theorem passFrame_frame (s : State) :
    (s.passFrame).link = s.link ∧ (s.passFrame).cameraLocked = s.cameraLocked ∧
    (s.passFrame).streams = s.streams ∧ (s.passFrame).screens = s.screens ∧
    (s.passFrame).signals = s.signals ∧ (s.passFrame).takeover = s.takeover ∧
    (s.passFrame).guide = s.guide ∧ (s.passFrame).overlay = s.overlay ∧ (s.passFrame).sound = s.sound ∧
    (s.passFrame).chimes = s.chimes ∧ (s.passFrame).tables = s.tables ∧
    (s.passFrame).interp = s.interp ∧ (s.passFrame).flash = s.flash ∧ (s.passFrame).ports = s.ports ∧
    (s.passFrame).freeCount = s.freeCount ∧ (s.passFrame).pending = s.pending := by
  and_intros
  all_goals
    unfold State.passFrame
    repeat' split
    all_goals simp_all

@[simp] theorem cutStep_frame (s : State) :
    (s.cutStep).link = s.link ∧ (s.cutStep).cameraLocked = s.cameraLocked ∧
    (s.cutStep).streams = s.streams ∧ (s.cutStep).screens = s.screens ∧
    (s.cutStep).signals = s.signals ∧ (s.cutStep).takeover = s.takeover ∧ (s.cutStep).guide = s.guide ∧
    (s.cutStep).overlay = s.overlay ∧ (s.cutStep).sound = s.sound ∧ (s.cutStep).chimes = s.chimes ∧
    (s.cutStep).tables = s.tables ∧ (s.cutStep).interp = s.interp ∧ (s.cutStep).loader = s.loader ∧
    (s.cutStep).ports = s.ports ∧ (s.cutStep).pending = s.pending := by
  and_intros
  all_goals
    unfold State.cutStep
    repeat' split
    all_goals simp_all

@[simp] theorem endSave_frame (s : State) (o : Fin 16) :
    (s.endSave o).link = s.link ∧ (s.endSave o).cameraLocked = s.cameraLocked ∧
    (s.endSave o).streams = s.streams ∧ (s.endSave o).screens = s.screens ∧
    (s.endSave o).signals = s.signals ∧ (s.endSave o).takeover = s.takeover ∧
    (s.endSave o).guide = s.guide ∧ (s.endSave o).overlay = s.overlay ∧ (s.endSave o).sound = s.sound ∧
    (s.endSave o).chimes = s.chimes ∧ (s.endSave o).tables = s.tables ∧ (s.endSave o).flash = s.flash ∧
    (s.endSave o).ports = s.ports ∧ (s.endSave o).freeCount = s.freeCount ∧
    (s.endSave o).pending = s.pending := by
  and_intros
  all_goals
    unfold State.endSave
    repeat' split
    all_goals simp_all

@[simp] theorem nextRecord_frame (s : State) :
    (s.nextRecord).link = s.link ∧ (s.nextRecord).cameraLocked = s.cameraLocked ∧
    (s.nextRecord).streams = s.streams ∧ (s.nextRecord).screens = s.screens ∧
    (s.nextRecord).signals = s.signals ∧ (s.nextRecord).takeover = s.takeover ∧
    (s.nextRecord).guide = s.guide ∧ (s.nextRecord).overlay = s.overlay ∧
    (s.nextRecord).sound = s.sound ∧ (s.nextRecord).chimes = s.chimes ∧
    (s.nextRecord).tables = s.tables ∧ (s.nextRecord).flash = s.flash ∧ (s.nextRecord).ports = s.ports ∧
    (s.nextRecord).freeCount = s.freeCount ∧ (s.nextRecord).pending = s.pending := by
  and_intros
  all_goals
    unfold State.nextRecord
    repeat' split
    all_goals simp_all

@[simp] theorem saveMoved_frame (s : State) (a : Nat) :
    (s.saveMoved a).link = s.link ∧ (s.saveMoved a).cameraLocked = s.cameraLocked ∧
    (s.saveMoved a).streams = s.streams ∧ (s.saveMoved a).screens = s.screens ∧
    (s.saveMoved a).signals = s.signals ∧ (s.saveMoved a).takeover = s.takeover ∧
    (s.saveMoved a).guide = s.guide ∧ (s.saveMoved a).overlay = s.overlay ∧
    (s.saveMoved a).sound = s.sound ∧ (s.saveMoved a).chimes = s.chimes ∧
    (s.saveMoved a).tables = s.tables ∧ (s.saveMoved a).interp = s.interp ∧
    (s.saveMoved a).flash = s.flash ∧ (s.saveMoved a).ports = s.ports ∧
    (s.saveMoved a).freeCount = s.freeCount ∧ (s.saveMoved a).pending = s.pending := by
  and_intros
  all_goals
    unfold State.saveMoved
    repeat' split
    all_goals simp_all

@[simp] theorem stepDone_frame (s : State) :
    (s.stepDone).link = s.link ∧ (s.stepDone).cameraLocked = s.cameraLocked ∧
    (s.stepDone).streams = s.streams ∧ (s.stepDone).screens = s.screens ∧
    (s.stepDone).signals = s.signals ∧ (s.stepDone).takeover = s.takeover ∧
    (s.stepDone).guide = s.guide ∧ (s.stepDone).overlay = s.overlay ∧ (s.stepDone).sound = s.sound ∧
    (s.stepDone).chimes = s.chimes ∧ (s.stepDone).tables = s.tables ∧ (s.stepDone).ports = s.ports ∧
    (s.stepDone).freeCount = s.freeCount ∧ (s.stepDone).pending = s.pending := by
  and_intros
  all_goals
    unfold State.stepDone
    repeat' split
    all_goals simp_all

end Sys2Proof.Machine
end

