-- ==== Sys2Proof/Laws/Channel.lean ====
section
/-! SUPPORT. Fields and bytes; what a raising, a marker and a reply do; the execution of one command. -/

namespace Sys2Proof

/-- The two bytes of a field give it back. -/
@[simp] theorem wordOfBytes_bytesOfWord (w : Word) :
    wordOfBytes (w.extractLsb' 8 8) (w.extractLsb' 0 8) = w := by
  unfold wordOfBytes
  ext i hi
  simp only [BitVec.getElem_append, BitVec.getElem_extractLsb']
  split
  · simp [BitVec.getLsbD_eq_getElem hi]
  · rw [BitVec.getLsbD_eq_getElem (by omega)]
    congr 1
    omega

/-- The fields of the bytes of a list of fields are that list. -/
@[simp] theorem wordsOfBytes_bytesOfWords (ws : List Word) : wordsOfBytes (bytesOfWords ws) = some ws := by
  induction ws with
  | nil => rfl
  | cons w ws ih =>
    have : bytesOfWords (w :: ws) = w.extractLsb' 8 8 :: w.extractLsb' 0 8 :: bytesOfWords ws := rfl
    rw [this, wordsOfBytes, ih]
    simp

namespace Machine

/-- A raising of a cause out of the enable set does nothing (R154). -/
theorem raise_disabled {s : State} {c : Cause} (r : Raising) (h : s.interp.enabled.get c.index = false) :
    s.raise c r = s := by
  simp [State.raise, h]

/-- A raising of an enabled cause changes that cause's record alone (R154). -/
theorem raise_enabled {s : State} {c : Cause} (r : Raising) (h : s.interp.enabled.get c.index = true) :
    s.raise c r = s.setInterp { s.interp with
      causes := s.interp.causes.set c.index (raiseRecord (s.interp.causes.get c.index) r) } := by
  simp [State.raise, h]

/-- A raising leaves all of the interpreter but its cause records. -/
@[simp] theorem raise_interp_frame (s : State) (c : Cause) (r : Raising) :
    (s.raise c r).interp.queue = s.interp.queue ∧ (s.raise c r).interp.dropped = s.interp.dropped ∧
    (s.raise c r).interp.startUp = s.interp.startUp ∧
    (s.raise c r).interp.enabled = s.interp.enabled := by
  unfold State.raise
  split <;> simp

/-- A reply joins the back channel while the link is locked and has room (R158). -/
theorem handReply_room {s : State} (r : Reply) (hl : s.link.lock = .locked) (hb : s.link.back.length < 64) :
    s.handReply r = s.setLink { s.link with back := s.link.back ++ [.reply r] } := by
  simp [State.handReply, backCapacity, hl, hb]

/-- A reply waits while the back channel is full (R158). -/
theorem handReply_full {s : State} (r : Reply) (hl : s.link.lock = .locked) (hb : 64 ≤ s.link.back.length) :
    s.handReply r = s.setLink { s.link with waiting := some r } := by
  simp [State.handReply, backCapacity, hl, Nat.not_lt.mpr hb]

/-- A reply is discarded while the link is not locked (R157). -/
theorem handReply_unlocked {s : State} (r : Reply) (hl : s.link.lock ≠ .locked) : s.handReply r = s := by
  simp [State.handReply, hl]

/-- A command that heads the queue while no reply waits is the head command. -/
theorem headCommand_executes {s : State} {p : ControlPacket} {code : Nat} {ws : List Word}
    (h : s.executes p code ws) : s.headCommand = some p := by
  simp [State.headCommand, h.1, h.2.1]

/-- The checks of R150 are passed by a command that is executed. -/
theorem answerOf_executes {s : State} {p : ControlPacket} {code : Nat} {ws : List Word}
    (rule : CommandRule) (h : s.executes p code ws) :
    answerOf rule p s.popCommand =
      match rule p ws s.popCommand with
      | .ok a => a
      | .error r => ⟨r, [], s.popCommand⟩ := by
  obtain ⟨-, -, hc, hp, hs⟩ := h
  have hst : s.popCommand.interp.startUp = s.interp.startUp := rfl
  unfold answerOf
  rw [hst, hp, wordsOfBytes_bytesOfWords]
  split
  · next hb =>
    rcases hs with hr | hm
    · rw [hr] at hb
      exact absurd hb.1 (by decide)
    · have : loadingCodes.contains p.code = true := by
        rw [hc]
        exact List.contains_iff_mem.mpr hm
      rw [this] at hb
      exact absurd hb.2 (by decide)
  · rfl

/-- A row executes the command of its code that heads the queue. -/
theorem runCommand_executes {s : State} {p : ControlPacket} {code : Nat} {ws : List Word}
    (rule : CommandRule) (h : s.executes p code ws) :
    runCommand (codeIs code) rule s =
      conclude p (match rule p ws s.popCommand with
        | .ok a => a
        | .error r => ⟨r, [], s.popCommand⟩) := by
  unfold runCommand
  rw [headCommand_executes h]
  have hc : codeIs code p = true := by simp [codeIs, h.2.2.1]
  simp only [hc, if_true]
  rw [answerOf_executes rule h]

/-- A row whose command is accepted: the effect, then the reply; no notification. -/
theorem runCommand_accepted {s : State} {p : ControlPacket} {code : Nat} {ws : List Word} {rule : CommandRule}
    {a : Answer} (h : s.executes p code ws) (hr : rule p ws s.popCommand = .ok a)
    (ha : a.result.refuses p.code = false) :
    runCommand (codeIs code) rule s = a.after.replied p a.result a.data := by
  rw [runCommand_executes rule h, hr]
  simp [conclude, State.noteRefusal, ha, State.replied]

/-- A row whose command is refused: nothing but the notification and the reply (R151, R152). -/
theorem runCommand_refused {s : State} {p : ControlPacket} {code : Nat} {ws : List Word} {rule : CommandRule}
    {r : Result} (h : s.executes p code ws) (hr : rule p ws s.popCommand = .error r) :
    runCommand (codeIs code) rule s = (s.popCommand.noteRefusal p r).replied p r [] := by
  rw [runCommand_executes rule h, hr]
  rfl

/-- A row does nothing while its command does not head the queue. -/
theorem runCommand_other {s : State} {accepts : ControlPacket → Bool} (rule : CommandRule)
    (h : ∀ p, s.headCommand = some p → accepts p = false) : runCommand accepts rule s = s := by
  unfold runCommand
  cases hp : s.headCommand with
  | none => rfl
  | some p => simp [h p hp]

end Machine

end Sys2Proof
end

