-- ==== Sys2Proof/Laws/Memory.lean ====
section
/-! SUPPORT. Bytes at addresses: what is read after a write, and the canonical form kept by every
operation. -/

namespace Sys2Proof.Machine

open Sys2Proof

variable {d : Byte} {size : Nat}

/-! ### The canonical form -/

theorem wfFrom_mono {m : Memory} {lo lo' : Nat} (h : Memory.wfFrom d size lo m = true) (hl : lo' ≤ lo) :
    Memory.wfFrom d size lo' m = true := by
  cases m with
  | nil => rfl
  | cons c rest =>
    simp only [Memory.wfFrom, Bool.and_eq_true, decide_eq_true_eq] at h ⊢
    exact ⟨⟨⟨by omega, h.1.1.2⟩, h.1.2⟩, h.2⟩

theorem wfFrom_write {m : Memory} {lo a : Nat} (v : Byte) (h : Memory.wfFrom d size lo m = true)
    (ha : lo ≤ a) (hs : a < size) : Memory.wfFrom d size lo (Memory.write d m a v) = true := by
  induction m generalizing lo with
  | nil =>
    simp only [Memory.write]
    split
    · rfl
    · next hv => simp [Memory.wfFrom, ha, hs, hv]
  | cons c rest ih =>
    obtain ⟨x, b⟩ := c
    simp only [Memory.wfFrom, Bool.and_eq_true, decide_eq_true_eq, bne_iff_ne, ne_eq] at h
    obtain ⟨⟨⟨h1, h2⟩, h3⟩, h4⟩ := h
    simp only [Memory.write]
    split
    · next hlt =>
      split
      · simp [Memory.wfFrom, h1, h2, h3, h4]
      · next hv =>
        have := wfFrom_mono h4 (Nat.le_refl _)
        simp [Memory.wfFrom, ha, hs, hv, h2, h3, h4, Nat.succ_le_of_lt hlt]
    · split
      · next heq =>
        subst heq
        split
        · exact wfFrom_mono h4 (by omega)
        · next hv => simp [Memory.wfFrom, h1, h2, hv, h4]
      · next hn hne =>
        have := ih h4 (by omega)
        simp [Memory.wfFrom, h1, h2, h3, this]

theorem wf_write {m : Memory} {a : Nat} (v : Byte) (h : Memory.wf d size m = true) (ha : a < size) :
    Memory.wf d size (Memory.write d m a v) = true :=
  wfFrom_write v h (Nat.zero_le a) ha

theorem wf_writeBytes {bs : List Byte} {m : Memory} {a : Nat} (h : Memory.wf d size m = true)
    (ha : a + bs.length ≤ size) : Memory.wf d size (Memory.writeBytes d m a bs) = true := by
  induction bs generalizing m a with
  | nil => exact h
  | cons b bs ih =>
    simp only [List.length_cons] at ha
    exact ih (wf_write b h (by omega)) (by omega)

theorem wfFrom_filter {m : Memory} {lo : Nat} (p : Host.Cell → Bool) (h : Memory.wfFrom d size lo m = true) :
    Memory.wfFrom d size lo (m.filter p) = true := by
  induction m generalizing lo with
  | nil => rfl
  | cons c rest ih =>
    obtain ⟨x, b⟩ := c
    simp only [Memory.wfFrom, Bool.and_eq_true, decide_eq_true_eq, bne_iff_ne, ne_eq] at h
    obtain ⟨⟨⟨h1, h2⟩, h3⟩, h4⟩ := h
    simp only [List.filter_cons]
    split
    · simp [Memory.wfFrom, h1, h2, h3, ih h4]
    · exact wfFrom_mono (ih h4) (by omega)

theorem wf_clear {m : Memory} (a n : Nat) (h : Memory.wf d size m = true) :
    Memory.wf d size (m.clear a n) = true :=
  wfFrom_filter _ h

theorem wf_nil : Memory.wf d size [] = true := rfl

/-! ### Reading -/

@[simp] theorem read_nil (a : Nat) : Memory.read d [] a = d := rfl

theorem read_below {m : Memory} {lo a : Nat} (h : Memory.wfFrom d size lo m = true) (ha : a < lo) :
    Memory.read d m a = d := by
  induction m generalizing lo with
  | nil => rfl
  | cons c rest ih =>
    obtain ⟨x, b⟩ := c
    simp only [Memory.wfFrom, Bool.and_eq_true, decide_eq_true_eq, bne_iff_ne, ne_eq] at h
    obtain ⟨⟨⟨h1, h2⟩, h3⟩, h4⟩ := h
    simp only [Memory.read]
    rw [if_neg (by omega)]
    exact ih h4 (by omega)

theorem readFrom_write {m : Memory} {lo a a' : Nat} (v : Byte) (h : Memory.wfFrom d size lo m = true) :
    Memory.read d (Memory.write d m a v) a' = if a = a' then v else Memory.read d m a' := by
  induction m generalizing lo with
  | nil =>
    simp only [Memory.write]
    by_cases hv : v = d
    · simp [hv, Memory.read]
    · by_cases he : a = a' <;> simp [hv, he, Memory.read]
  | cons c rest ih =>
    obtain ⟨x, b⟩ := c
    simp only [Memory.wfFrom, Bool.and_eq_true, decide_eq_true_eq, bne_iff_ne, ne_eq] at h
    obtain ⟨⟨⟨h1, h2⟩, h3⟩, h4⟩ := h
    simp only [Memory.write]
    by_cases hlt : a < x
    · rw [if_pos hlt]
      by_cases hv : v = d
      · rw [if_pos hv]
        by_cases he : a = a'
        · subst he
          rw [if_pos rfl, hv]
          simp only [Memory.read]
          rw [if_neg (by omega)]
          exact read_below h4 (by omega)
        · rw [if_neg he]
      · rw [if_neg hv]
        by_cases he : a = a'
        · simp [Memory.read, he]
        · simp [Memory.read, he]
    · rw [if_neg hlt]
      by_cases hx : a = x
      · rw [if_pos hx]
        subst hx
        by_cases hv : v = d
        · rw [if_pos hv]
          by_cases he : a = a'
          · subst he
            rw [if_pos rfl, hv]
            exact read_below h4 (by omega)
          · simp [Memory.read, he]
        · rw [if_neg hv]
          by_cases he : a = a'
          · simp [Memory.read, he]
          · simp [Memory.read, he]
      · rw [if_neg hx]
        simp only [Memory.read]
        rw [ih h4]
        by_cases hxa : x = a'
        · rw [if_pos hxa, if_pos hxa, if_neg (by omega)]
        · rw [if_neg hxa, if_neg hxa]

theorem read_write {m : Memory} {a a' : Nat} (v : Byte) (h : Memory.wf d size m = true) :
    Memory.read d (Memory.write d m a v) a' = if a = a' then v else Memory.read d m a' :=
  readFrom_write v h

theorem read_writeBytes_outside {bs : List Byte} {m : Memory} {a a' : Nat} (h : Memory.wf d size m = true)
    (ha : a + bs.length ≤ size) (hout : a' < a ∨ a + bs.length ≤ a') :
    Memory.read d (Memory.writeBytes d m a bs) a' = Memory.read d m a' := by
  induction bs generalizing m a with
  | nil => rfl
  | cons b bs ih =>
    simp only [List.length_cons] at ha hout
    rw [Memory.writeBytes, ih (wf_write b h (by omega)) (by omega) (by omega), read_write b h,
      if_neg (by omega)]

theorem readFrom_filter {m : Memory} {lo a : Nat} (p : Host.Cell → Bool)
    (h : Memory.wfFrom d size lo m = true) (hp : ∀ b, p (a, b) = true) :
    Memory.read d (m.filter p) a = Memory.read d m a := by
  induction m generalizing lo with
  | nil => rfl
  | cons c rest ih =>
    obtain ⟨x, b⟩ := c
    simp only [Memory.wfFrom, Bool.and_eq_true, decide_eq_true_eq, bne_iff_ne, ne_eq] at h
    simp only [List.filter_cons, Memory.read]
    by_cases hx : x = a
    · subst hx
      simp [hp, Memory.read]
    · rw [if_neg hx]
      split
      · simp only [Memory.read]
        rw [if_neg hx, ih h.2]
      · exact ih h.2

theorem read_filter_out {m : Memory} {a : Nat} (p : Host.Cell → Bool) (hp : ∀ b, p (a, b) = false) :
    Memory.read d (m.filter p) a = d := by
  induction m with
  | nil => rfl
  | cons c rest ih =>
    obtain ⟨x, b⟩ := c
    simp only [List.filter_cons]
    split
    · next h =>
      simp only [Memory.read]
      have hx : x ≠ a := by
        intro e
        subst e
        simp [hp] at h
      rw [if_neg hx]
      exact ih
    · exact ih

/-- The bytes just written are read back. -/
theorem readBytes_writeBytes {bs : List Byte} {m : Memory} {a : Nat} (h : Memory.wf d size m = true)
    (ha : a + bs.length ≤ size) : Memory.readBytes d (Memory.writeBytes d m a bs) a bs.length = bs := by
  induction bs generalizing m a with
  | nil => rfl
  | cons b bs ih =>
    simp only [List.length_cons] at ha
    have hw := wf_write b h (a := a) (by omega)
    have hrest := ih hw (a := a + 1) (by omega)
    have hhead : Memory.read d (Memory.writeBytes d m a (b :: bs)) a = b := by
      rw [Memory.writeBytes, read_writeBytes_outside hw (by omega) (by omega), read_write b h, if_pos rfl]
    unfold Memory.readBytes at hrest ⊢
    rw [List.length_cons, List.range_succ_eq_map, List.map_cons, Nat.add_zero, hhead, List.map_map]
    congr 1
    rw [Memory.writeBytes]
    refine Eq.trans (List.map_congr_left fun i _ => ?_) hrest
    simp only [Function.comp, Nat.succ_eq_add_one]
    congr 1
    omega

/-- An address cleared reads as an unlisted one, and every other address as before. -/
theorem read_clear {m : Memory} {a n a' : Nat} (h : Memory.wf d size m = true) :
    Memory.read d (m.clear a n) a' = if a ≤ a' ∧ a' < a + n then d else Memory.read d m a' := by
  unfold Memory.clear
  split
  · next hc => exact read_filter_out _ fun b => by simp [hc.1, hc.2]
  · next hc =>
    refine readFrom_filter _ h fun b => ?_
    simp only [Bool.not_eq_true', Bool.and_eq_false_iff, decide_eq_false_iff_not]
    omega

end Sys2Proof.Machine
end

