-- ==== Sys2Proof/Laws/PerInstr.lean ====
section
/-! SUPPORT. The family Rows: what holds of every command as syntax. -/

namespace Sys2Proof.Laws.Rows

open Sys2Proof

/-- Whether a row carries what a link or the vehicle bus received, which can be ill formed. -/
def carriesReception : Instr → Bool
  | .linePacket _ _ => true
  | .soundPacket _ => true
  | .controlPacket _ => true
  | .malformedFrame _ _ => true
  | .receivedCanFrame _ => true
  | _ => false

/-- No word of the table spells the command, since the table gives bits to no row, and a row that carries no
reception is well formed. -/
def Statement (i : Instr) : Prop :=
  (∀ nbits w, decodeTableWord nbits w ≠ some i) ∧ (carriesReception i = false → i.wellFormed = true)

/-- The table's decoder spells nothing. -/
theorem not_spelled (i : Instr) (nbits w : Nat) : decodeTableWord nbits w ≠ some i := by
  simp [decodeTableWord]

theorem resetLine : Statement .resetLine :=
  ⟨not_spelled _, fun _ => rfl⟩

theorem linePacket (link : LinkId) (frame : List Byte) : Statement (.linePacket link frame) :=
  ⟨not_spelled _, fun h => by cases h⟩

theorem soundPacket (frame : List Byte) : Statement (.soundPacket frame) :=
  ⟨not_spelled _, fun h => by cases h⟩

theorem controlPacket (frame : List Byte) : Statement (.controlPacket frame) :=
  ⟨not_spelled _, fun h => by cases h⟩

theorem malformedFrame (link : LinkId) (frame : List Byte) : Statement (.malformedFrame link frame) :=
  ⟨not_spelled _, fun h => by cases h⟩

theorem cabinLinkLockAcquired : Statement .cabinLinkLockAcquired :=
  ⟨not_spelled _, fun _ => rfl⟩

theorem cabinLinkLoss : Statement .cabinLinkLoss :=
  ⟨not_spelled _, fun _ => rfl⟩

theorem cameraLinkLock : Statement .cameraLinkLock :=
  ⟨not_spelled _, fun _ => rfl⟩

theorem cameraLinkUnlock : Statement .cameraLinkUnlock :=
  ⟨not_spelled _, fun _ => rfl⟩

theorem backChannelPacketSent : Statement .backChannelPacketSent :=
  ⟨not_spelled _, fun _ => rfl⟩

theorem waitingReplyEnqueue : Statement .waitingReplyEnqueue :=
  ⟨not_spelled _, fun _ => rfl⟩

theorem frameStart (screen : ScreenId) : Statement (.frameStart screen) :=
  ⟨not_spelled _, fun _ => rfl⟩

theorem lockedFrameStart : Statement .lockedFrameStart :=
  ⟨not_spelled _, fun _ => rfl⟩

theorem lineDemand (screen : ScreenId) : Statement (.lineDemand screen) :=
  ⟨not_spelled _, fun _ => rfl⟩

theorem audioBlockBoundary : Statement .audioBlockBoundary :=
  ⟨not_spelled _, fun _ => rfl⟩

theorem sampleInstant : Statement .sampleInstant :=
  ⟨not_spelled _, fun _ => rfl⟩

theorem stallTimerExpiry (stream : StreamId) : Statement (.stallTimerExpiry stream) :=
  ⟨not_spelled _, fun _ => rfl⟩

theorem reverseLineSample (level : LineLevel) : Statement (.reverseLineSample level) :=
  ⟨not_spelled _, fun _ => rfl⟩

theorem receivedCanFrame (frame : CanFrame) : Statement (.receivedCanFrame frame) :=
  ⟨not_spelled _, fun h => by cases h⟩

theorem staleTimerExpiry (target : Target) : Statement (.staleTimerExpiry target) :=
  ⟨not_spelled _, fun _ => rfl⟩

theorem entryDeadlineExpiry : Statement .entryDeadlineExpiry :=
  ⟨not_spelled _, fun _ => rfl⟩

theorem lingerTimerExpiry : Statement .lingerTimerExpiry :=
  ⟨not_spelled _, fun _ => rfl⟩

theorem exitDeadlineExpiry : Statement .exitDeadlineExpiry :=
  ⟨not_spelled _, fun _ => rfl⟩

theorem flashHeaderLoad (answers : Bool) : Statement (.flashHeaderLoad answers) :=
  ⟨not_spelled _, fun _ => rfl⟩

theorem flashRecordLoad : Statement .flashRecordLoad :=
  ⟨not_spelled _, fun _ => rfl⟩

theorem flashWriteComplete (outcome : FlashOutcome) : Statement (.flashWriteComplete outcome) :=
  ⟨not_spelled _, fun _ => rfl⟩

theorem openStream : Statement .openStream :=
  ⟨not_spelled _, fun _ => rfl⟩

theorem closeStream : Statement .closeStream :=
  ⟨not_spelled _, fun _ => rfl⟩

theorem streamStatus : Statement .streamStatus :=
  ⟨not_spelled _, fun _ => rfl⟩

theorem writeScreen : Statement .writeScreen :=
  ⟨not_spelled _, fun _ => rfl⟩

theorem readScreen : Statement .readScreen :=
  ⟨not_spelled _, fun _ => rfl⟩

theorem writeSignalSettings : Statement .writeSignalSettings :=
  ⟨not_spelled _, fun _ => rfl⟩

theorem writeSignalEntry : Statement .writeSignalEntry :=
  ⟨not_spelled _, fun _ => rfl⟩

theorem readSignals : Statement .readSignals :=
  ⟨not_spelled _, fun _ => rfl⟩

theorem writeTakeoverSettings : Statement .writeTakeoverSettings :=
  ⟨not_spelled _, fun _ => rfl⟩

theorem startView : Statement .startView :=
  ⟨not_spelled _, fun _ => rfl⟩

theorem stopView : Statement .stopView :=
  ⟨not_spelled _, fun _ => rfl⟩

theorem takeoverStatus : Statement .takeoverStatus :=
  ⟨not_spelled _, fun _ => rfl⟩

theorem writeGuideSettings : Statement .writeGuideSettings :=
  ⟨not_spelled _, fun _ => rfl⟩

theorem writeGuideSet : Statement .writeGuideSet :=
  ⟨not_spelled _, fun _ => rfl⟩

theorem readGuideResult : Statement .readGuideResult :=
  ⟨not_spelled _, fun _ => rfl⟩

theorem defineImage : Statement .defineImage :=
  ⟨not_spelled _, fun _ => rfl⟩

theorem imageData : Statement .imageData :=
  ⟨not_spelled _, fun _ => rfl⟩

theorem freeImage : Statement .freeImage :=
  ⟨not_spelled _, fun _ => rfl⟩

theorem imageInfo : Statement .imageInfo :=
  ⟨not_spelled _, fun _ => rfl⟩

theorem writePalette : Statement .writePalette :=
  ⟨not_spelled _, fun _ => rfl⟩

theorem writeObject : Statement .writeObject :=
  ⟨not_spelled _, fun _ => rfl⟩

theorem clearObject : Statement .clearObject :=
  ⟨not_spelled _, fun _ => rfl⟩

theorem readObject : Statement .readObject :=
  ⟨not_spelled _, fun _ => rfl⟩

theorem openSound : Statement .openSound :=
  ⟨not_spelled _, fun _ => rfl⟩

theorem closeSound : Statement .closeSound :=
  ⟨not_spelled _, fun _ => rfl⟩

theorem writeMix : Statement .writeMix :=
  ⟨not_spelled _, fun _ => rfl⟩

theorem writeDuck : Statement .writeDuck :=
  ⟨not_spelled _, fun _ => rfl⟩

theorem audioStatus : Statement .audioStatus :=
  ⟨not_spelled _, fun _ => rfl⟩

theorem writePattern : Statement .writePattern :=
  ⟨not_spelled _, fun _ => rfl⟩

theorem playChime : Statement .playChime :=
  ⟨not_spelled _, fun _ => rfl⟩

theorem stopChime : Statement .stopChime :=
  ⟨not_spelled _, fun _ => rfl⟩

theorem chimeStatus : Statement .chimeStatus :=
  ⟨not_spelled _, fun _ => rfl⟩

theorem writeParkRates : Statement .writeParkRates :=
  ⟨not_spelled _, fun _ => rfl⟩

theorem commit : Statement .commit :=
  ⟨not_spelled _, fun _ => rfl⟩

theorem commitStatus : Statement .commitStatus :=
  ⟨not_spelled _, fun _ => rfl⟩

theorem readTable : Statement .readTable :=
  ⟨not_spelled _, fun _ => rfl⟩

theorem saveSettings : Statement .saveSettings :=
  ⟨not_spelled _, fun _ => rfl⟩

theorem queryAttention : Statement .queryAttention :=
  ⟨not_spelled _, fun _ => rfl⟩

theorem writeAttentionEnables : Statement .writeAttentionEnables :=
  ⟨not_spelled _, fun _ => rfl⟩

theorem partStatus : Statement .partStatus :=
  ⟨not_spelled _, fun _ => rfl⟩

theorem resetFull : Statement .resetFull :=
  ⟨not_spelled _, fun _ => rfl⟩

theorem resetMedia : Statement .resetMedia :=
  ⟨not_spelled _, fun _ => rfl⟩

theorem unknownCommand : Statement .unknownCommand :=
  ⟨not_spelled _, fun _ => rfl⟩

end Sys2Proof.Laws.Rows
end

