-- ==== Sys2Proof/Laws/Tab.lean ====
section
/-! SUPPORT. Reading a table after an update. -/

namespace Sys2Proof.Tab

variable {α β : Type} {n : Nat}

@[simp] theorem get_set_self (t : Tab α n) (i : Fin n) (x : α) : (t.set i x).get i = x := by
  simp [Tab.get, Tab.set]

theorem get_set_ne (t : Tab α n) {i j : Fin n} (x : α) (h : i ≠ j) : (t.set i x).get j = t.get j := by
  have h' : i.val ≠ j.val := fun e => h (Fin.ext e)
  simp [Tab.get, Tab.set, h']

theorem get_set (t : Tab α n) (i j : Fin n) (x : α) :
    (t.set i x).get j = if i = j then x else t.get j := by
  by_cases h : i = j
  · subst h; simp
  · simp [h, get_set_ne t x h]

@[simp] theorem get_modify_self (t : Tab α n) (i : Fin n) (f : α → α) :
    (t.modify i f).get i = f (t.get i) := by simp [Tab.modify]

theorem get_modify (t : Tab α n) (i j : Fin n) (f : α → α) :
    (t.modify i f).get j = if i = j then f (t.get i) else t.get j := by
  simp [Tab.modify, get_set]

@[simp] theorem get_replicate (x : α) (i : Fin n) : (Tab.replicate n x).get i = x := by
  simp [Tab.get, Tab.replicate]

@[simp] theorem get_map (f : α → β) (t : Tab α n) (i : Fin n) : (t.map f).get i = f (t.get i) := by
  simp [Tab.get, Tab.map]

@[simp] theorem get_ofFn (f : Fin n → α) (i : Fin n) : (Tab.ofFn f).get i = f i := by
  simp [Tab.get, Tab.ofFn]

theorem ext_get {t u : Tab α n} (h : ∀ i, t.get i = u.get i) : t = u := by
  obtain ⟨l, hl⟩ := t
  obtain ⟨m, hm⟩ := u
  have : l = m := by
    refine List.ext_getElem (hl.trans hm.symm) fun i h1 _ => ?_
    exact h ⟨i, hl ▸ h1⟩
  subst this
  rfl

@[simp] theorem set_get_self (t : Tab α n) (i : Fin n) : t.set i (t.get i) = t := by
  refine ext_get fun j => ?_
  rw [get_set]
  split
  · next h => rw [h]
  · rfl

@[simp] theorem set_set (t : Tab α n) (i : Fin n) (x y : α) : (t.set i x).set i y = t.set i y := by
  refine ext_get fun j => ?_
  simp only [get_set]
  split <;> rfl

theorem get_mem (t : Tab α n) (i : Fin n) : t.get i ∈ t.toList := List.getElem_mem _

theorem exists_get_of_mem {t : Tab α n} {x : α} (h : x ∈ t.toList) : ∃ i, t.get i = x := by
  obtain ⟨i, hi, e⟩ := List.getElem_of_mem h
  exact ⟨⟨i, t.len ▸ hi⟩, e⟩

theorem toList_eq_map_get (t : Tab α n) : t.toList = (List.finRange n).map t.get := by
  refine List.ext_getElem (by simp [t.len]) fun i h1 h2 => ?_
  simp [Tab.get]

end Sys2Proof.Tab
end

