-- ==== Sys2Proof/Tests/Slice0.lean ====
section
/-! SUPPORT. Tests of the model on small states: the smoke test of well-formedness, the checks of the packet
frames, and, for every statement with hypotheses, a state and operands that meet them, clause by clause. -/

namespace Sys2Proof.Tests

open Sys2Proof Sys2Proof.Machine

set_option Elab.async false

/-! ### Helpers -/

/-- The state after a command that completes. -/
def after (i : Instr) (s : State) : State :=
  match exec i s with
  | .next t => t
  | .fault _ => s
  | .refused _ => s

/-- The state after several commands, each executed at once. -/
def afterAll (is : List Instr) (s : State) : State := is.foldl (fun s i => after i s) s

/-- The state right after reset with the cabin link locked, the camera link locked and the part READY. -/
def ready : State :=
  { State.reset with
    link := ⟨.locked, 0, [], none⟩
    cameraLocked := true
    interp := { Interpreter.reset with startUp := .ready }
    loader := { Loader.reset with position := .done } }

/-- A command packet with tag 7 and the notify flag. -/
def packet (code : Nat) (ws : List Word) : ControlPacket := ⟨code, 7#8, true, bytesOfWords ws⟩

/-- A state with one command in its queue. -/
def holding (code : Nat) (ws : List Word) (s : State) : State :=
  s.setInterp { s.interp with queue := [packet code ws] }

/-- The hypothesis `executes` of the statements, in a READY state in which no reply waits. -/
theorem holding_executes (code : Nat) (ws : List Word) (s : State) (h : s.link.waiting = none)
    (h' : s.interp.startUp = .ready) : (holding code ws s).executes (packet code ws) code ws :=
  ⟨h, rfl, rfl, rfl, Or.inl h'⟩

/-- The result and the data of the last reply in the back channel. -/
def lastReply (s : State) : Option (Result × List Word) :=
  match s.link.back.getLast? with
  | some (.reply r) => some (r.result, r.data)
  | _ => none

/-- The result of a command executed with the parameter fields `ws`. -/
def answer (code : Nat) (i : Instr) (ws : List Word) (s : State) : Option Result :=
  (lastReply (after i (holding code ws s))).map Prod.fst

/-- The state that a command executed with the parameter fields `ws` leaves. -/
def run (code : Nat) (i : Instr) (ws : List Word) (s : State) : State := after i (holding code ws s)

/-- A save in its erase step. -/
def saving (s : State) : State := s.setLoader { s.loader with saveStep := .erase }

/-- A LINE frame of a stream. -/
def lineFrame (st line first : Nat) (px : List Word) : List Byte :=
  frameOf 1#8 (BitVec.ofNat 8 st :: bytesOfWords ([numWord line, numWord first, numWord px.length] ++ px))

/-- A SOUND frame of a sound stream. -/
def soundFrame (st : Nat) (samples : List Word) : List Byte :=
  frameOf 2#8 (BitVec.ofNat 8 st :: bytesOfWords (numWord (samples.length / 2) :: samples))

/-- A line of 16 pixels. -/
def px : List Word := List.replicate 16 0xF800#16

/-- Stream 1 of 16 × 16 pixels, capacity 2, ready level 1, in a given state with given queued line numbers. -/
def small (st : StreamState) (lines : List Nat) : StreamRec :=
  { StreamRec.reset with
    state := st
    queue := lines.map fun n => ⟨n, px⟩
    stallTimer := if st = .running then .running 0 else .stopped }

/-! ### Well-formedness: an ill-formed term for each check -/

/-- A good frame has its kind's payload and a right check. -/
def goodLine : List Byte := lineFrame 1 0 0 [0x1234#16]

theorem test_wellFormed_linePacket :
    (Instr.linePacket .cabin goodLine).wellFormed = true ∧
    (Instr.linePacket .cabin (goodLine.dropLast ++ [0#8])).wellFormed = false ∧
    (Instr.linePacket .cabin (lineFrame 8 0 0 [0#16])).wellFormed = false ∧
    (Instr.linePacket .cabin (lineFrame 1 0 0 [])).wellFormed = false := by decide +kernel

theorem test_wellFormed_soundPacket :
    (Instr.soundPacket (soundFrame 3 [1#16, 2#16])).wellFormed = true ∧
    (Instr.soundPacket (soundFrame 4 [1#16, 2#16])).wellFormed = false ∧
    (Instr.soundPacket (soundFrame 0 [])).wellFormed = false ∧
    (Instr.soundPacket goodLine).wellFormed = false := by decide +kernel

theorem test_wellFormed_controlPacket :
    (Instr.controlPacket (frameOf 3#8 [0#8, 40#8, 9#8, 0#8])).wellFormed = true ∧
    (Instr.controlPacket (frameOf 3#8 [0#8, 40#8, 9#8])).wellFormed = false ∧
    (Instr.controlPacket (frameOf 4#8 [0#8, 40#8, 9#8, 0#8])).wellFormed = false := by decide +kernel

theorem test_wellFormed_malformedFrame :
    (Instr.malformedFrame .cabin [1#8, 0#8]).wellFormed = true ∧
    (Instr.malformedFrame .cabin goodLine).wellFormed = false ∧
    (Instr.malformedFrame .camera goodLine).wellFormed = false ∧
    (Instr.malformedFrame .camera (frameOf 3#8 [0#8, 40#8, 9#8, 0#8])).wellFormed = true := by decide +kernel

theorem test_wellFormed_receivedCanFrame :
    (Instr.receivedCanFrame ⟨false, 2047, false, 15, List.replicate 8 0#8⟩).wellFormed = true ∧
    (Instr.receivedCanFrame ⟨false, 2048, false, 0, []⟩).wellFormed = false ∧
    (Instr.receivedCanFrame ⟨true, 2 ^ 29, false, 0, []⟩).wellFormed = false ∧
    (Instr.receivedCanFrame ⟨false, 1, false, 16, List.replicate 8 0#8⟩).wellFormed = false ∧
    (Instr.receivedCanFrame ⟨false, 1, false, 3, [0#8]⟩).wellFormed = false ∧
    (Instr.receivedCanFrame ⟨false, 1, true, 3, [0#8]⟩).wellFormed = false := by decide +kernel

/-- The checks of the links and of the flash on their usual check string. -/
theorem test_checks :
    let digits : List Byte := [0x31#8, 0x32#8, 0x33#8, 0x34#8, 0x35#8, 0x36#8, 0x37#8, 0x38#8, 0x39#8]
    crc16 digits = 0x29B1#16 ∧ crc32 digits = 0xCBF43926#32 := by decide +kernel

/-- The bytes of a REPLY, of a frame marker and of a flow marker begin with their kind. -/
theorem test_backFrames :
    (BackPacket.reply ⟨9#8, 40, .ok, [0x0212#16]⟩).frame.take 9 =
      [0x81#8, 0#8, 6#8, 9#8, 0#8, 40#8, 0#8, 0x02#8, 0x12#8] ∧
    (BackPacket.frameMarker 0 (some 7) 5#8).frame.take 6 = [0x82#8, 0#8, 3#8, 0#8, 7#8, 5#8] ∧
    (BackPacket.flowMarker 2 .pause).frame.take 5 = [0x83#8, 0#8, 2#8, 2#8, 0#8] := by decide +kernel

/-! ### Steps and commands in general -/

theorem witness_StepRunsFrontCommand :
    ((ready.setPending [.cabinLinkLoss, .cameraLinkLock]).pending = .cabinLinkLoss :: [.cameraLinkLock]) ∧
    step (ready.setPending [.cabinLinkLoss, .cameraLinkLock]) =
      exec .cabinLinkLoss ((ready.setPending [.cabinLinkLoss, .cameraLinkLock]).setPending [.cameraLinkLock]) ∧
    ready.pending = [] ∧ step ready = .next ready := ⟨rfl, rfl, rfl, rfl⟩

/-- The reply joins the back channel, waits while it is full, and is discarded without the lock. -/
theorem witness_OneReplyPerCommand :
    let full := ready.setLink { ready.link with back := List.replicate 64 (.flowMarker 0 .pause) }
    let lost := ready.setLink { ready.link with lock := .lostReceiver }
    (38, Instr.queryAttention) ∈ commandRows ∧
    (run 38 .queryAttention [] ready).link.back =
      [.reply ⟨7#8, 38, .ok, [0xFFFF#16, 0#16]⟩] ∧
    (run 38 .queryAttention [] full).link.waiting = some ⟨7#8, 38, .ok, [0xFFFF#16, 0#16]⟩ ∧
    (run 38 .queryAttention [] lost).link = lost.link ∧
    (run 38 .queryAttention [] ready).interp.queue = [] := by decide +kernel

/-- Each check of R150, in LOADING and in READY. -/
theorem witness_ChecksBeforeOwnRule :
    let loading := ready.setInterp { ready.interp with startUp := .loading }
    let odd := (holding 36 [] ready).setInterp { ready.interp with queue := [⟨36, 7#8, true, [1#8]⟩] }
    let unknown (c : Nat) := lastReply (after .unknownCommand (holding c [] loading))
    (36, Instr.readTable) ∈ commandRows ∧ (8, Instr.readSignals) ∈ commandRows ∧
    answer 36 .readTable [] loading = some .busy ∧ answer 8 .readSignals [0#16] loading = some .ok ∧
    answer 36 .readTable [] ready = some .badLength ∧
    lastReply (after .readTable odd) = some (.badLength, []) ∧
    unknown 0 = some (.badCommand, []) ∧ unknown 42 = some (.badCommand, []) ∧
    answer 2 .closeStream [] ready = some .badLength ∧ answer 41 .resetFull [0#16, 0#16] ready = some .badLength ∧
    answer 14 .writeGuideSet [0#16, 0#16] ready = some .badLength ∧
    answer 29 .writePattern (List.replicate 6 16#16) ready = some .badLength ∧
    answer 29 .writePattern (List.replicate 7 16#16) ready = some .badValue ∧
    answer 33 .writeParkRates [0#16] ready = some .badLength ∧
    answer 21 .writeObject (List.replicate 10 0#16) ready = some .badLength ∧
    answer 7 .writeSignalEntry [0#16, 1#16, 2#16] ready = some .badLength ∧
    answer 23 .readObject [0#16] ready = some .badLength ∧
    answer 36 .readTable [0#16, 0#16] ready = some .badLength ∧
    after .unknownCommand (holding 41 [] ready) = holding 41 [] ready := by decide +kernel

/-- A refusal with the notify flag raises an enabled COMMAND_REFUSED, with the cabin link locked and without. -/
theorem witness_RefusalChangesNothing :
    let s := ready.setInterp { ready.interp with enabled := Tab.replicate 12 true }
    let lost := s.setLink { s.link with lock := .lostReceiver }
    let held := holding 2 [8#16] lost
    (answerOf Machine.closeStream (packet 2 [8#16]) held.popCommand).result = .badValue ∧
    (after .closeStream held).link = lost.link ∧
    (after .closeStream held).interp.causes.get Cause.commandRefused.index = some (.refused 7#8 1) ∧
    Result.refuses 2 .badValue = true ∧ answer 2 .closeStream [8#16] s = some .badValue ∧
    (run 2 .closeStream [8#16] s).interp.causes.get Cause.commandRefused.index = some (.refused 7#8 1) ∧
    (run 2 .closeStream [8#16] s).streams = s.streams := by decide +kernel

/-! ### The Link Interface -/

/-- A queue of 7 takes the packet, a queue of 8 drops it. -/
theorem witness_ControlPacketQueued :
    let frame := frameOf 3#8 [0#8, 40#8, 9#8, 1#8, 0#8]
    let queued (n : Nat) := ready.setInterp { ready.interp with
      queue := List.replicate n (packet 40 []), enabled := Tab.replicate 12 true }
    controlOf frame = some ⟨40, 9#8, true, [0#8]⟩ ∧
    (after (.controlPacket frame) (queued 7)).interp.queue.length = 8 ∧
    (after (.controlPacket frame) (queued 8)).interp.queue.length = 8 ∧
    (after (.controlPacket frame) (queued 8)).interp.dropped = 1 ∧
    (after (.controlPacket frame) (queued 8)).interp.causes.get Cause.commandOverrun.index = some (.count 1) := by
  decide +kernel

/-- The layout of a CONTROL frame, its shortest form, and a notify byte that is neither 0 nor 1. -/
theorem witness_ControlPacketQueued_layout :
    frameOf 3#8 [0#8, 40#8, 9#8, 1#8] =
      [3#8, 0#8, 4#8, 0#8, 40#8, 9#8, 1#8] ++ [(crc16 [3#8, 0#8, 4#8, 0#8, 40#8, 9#8, 1#8]).extractLsb' 8 8,
        (crc16 [3#8, 0#8, 4#8, 0#8, 40#8, 9#8, 1#8]).extractLsb' 0 8] ∧
    controlOf (frameOf 3#8 [0#8, 40#8, 9#8, 1#8]) = some ⟨40, 9#8, true, []⟩ ∧
    controlOf (frameOf 3#8 [1#8, 0#8, 9#8, 2#8]) = some ⟨256, 9#8, false, []⟩ ∧
    controlOf (frameOf 3#8 [0#8, 40#8, 9#8]) = none := by decide +kernel

/-- Streams 1 and 2 running and parked, and the camera stream running. -/
def threeStreams : State :=
  ((ready.setStream 1 (small .running [0, 1])).setStream 2 (small .parked [3])).setStream camera
    (small .running [0])

/-- The thirty-first bad frame, the thirty-second, and the receiver's report. -/
theorem witness_LossOfCabinLinkLock :
    let errors (n : Nat) := threeStreams.setLink { threeStreams.link with errors := n }
    badOn .cabin [1#8] = true ∧
    (after (.malformedFrame .cabin [1#8]) (errors 30)).link = ⟨.locked, 31, [], none⟩ ∧
    (after (.malformedFrame .cabin [1#8]) (errors 31)).link = ⟨.lostDeclared, 0, [], none⟩ ∧
    (after (.malformedFrame .cabin [1#8]) (errors 31)).stream 1 = (small .running [0, 1]).afterCabinLoss ∧
    (after .cabinLinkLoss (errors 5)).link = ⟨.lostReceiver, 5, [], none⟩ ∧
    (after .cabinLinkLoss threeStreams).stream 2 = small .parked [3] ∧
    (after .cabinLinkLoss threeStreams).stream camera = small .running [0] := by decide +kernel

/-- STREAM_FAULT takes the members that stall beside those it holds; the receiver's loss after a declared one. -/
theorem witness_LossOfCabinLinkLock_members :
    let fault := Cause.streamFault.index
    let enabled := threeStreams.setInterp { ready.interp with
      enabled := Tab.replicate 12 true
      causes := ready.interp.causes.set fault (some (.members ((FlagSet.empty 16).insert 4))) }
    let declared := enabled.setLink ⟨.lostDeclared, 3, [], none⟩
    let members : Option Detail := some (.members (((FlagSet.empty 16).insert 4).insert 1))
    (after .cabinLinkLoss enabled).interp.causes.get fault = members ∧
    (after .cabinLinkLoss declared).interp.causes.get fault = members ∧
    (after .cabinLinkLoss declared).link = ⟨.lostReceiver, 3, [], none⟩ ∧
    (after .cabinLinkLoss (enabled.setStream 1 (small .stalled []))).interp = enabled.interp := by decide +kernel

/-- Frames good and bad at the bounds of their fields, on either link. -/
theorem witness_LossOfCabinLinkLock_frames :
    let line (st : Nat) (px : List Word) := lineFrame st 0 0 px
    let control (payload : List Byte) := frameOf 3#8 payload
    badOn .cabin (line 7 [0#16]) = false ∧ badOn .camera (line 7 [0#16]) = false ∧
    badOn .cabin (line 8 [0#16]) = true ∧ badOn .cabin (line 7 []) = true ∧
    badOn .cabin (soundFrame 3 [1#16, 2#16]) = false ∧ badOn .camera (soundFrame 3 [1#16, 2#16]) = true ∧
    badOn .cabin (soundFrame 4 [1#16, 2#16]) = true ∧ badOn .cabin (soundFrame 3 []) = true ∧
    badOn .cabin (control [0#8, 40#8, 9#8, 0#8]) = false ∧ badOn .cabin (control [0#8, 40#8, 9#8]) = true ∧
    badOn .cabin (frameOf 4#8 [0#8, 40#8, 9#8, 0#8]) = true ∧
    badOn .cabin (control [0#8, 40#8, 9#8, 0#8] ++ [0#8]) = true ∧ badOn .cabin [3#8, 0#8, 0#8, 0#8] = true := by
  decide +kernel

theorem witness_LockAndBackChannelEvents :
    let queued := ready.setLink ⟨.locked, 0, [.flowMarker 1 .resume], some ⟨7#8, 40, .ok, []⟩⟩
    let unlocked := ready.setCameraLocked false
    let declared := ready.setLink ⟨.lostDeclared, 0, [], none⟩
    let heard := after (.linePacket .cabin (lineFrame 2 0 0 [9#16])) declared
    State.reset.link.lock = .lostReceiver ∧ (after .cabinLinkLockAcquired State.reset).link.lock = .locked ∧
    after .cabinLinkLockAcquired declared = declared ∧ heard.link.lock = .locked ∧ (heard.stream 2).strays = 1 ∧
    unlocked.cameraLocked = false ∧ (after .cameraLinkLock unlocked).cameraLocked = true ∧
    ((after .cameraLinkLock unlocked).stream camera).startsToSkip = 2 ∧
    (after .backChannelPacketSent queued).link.back = [] ∧
    (after .backChannelPacketSent queued).ports.backFrame = some (BackPacket.flowMarker 1 .resume).frame ∧
    (after .waitingReplyEnqueue queued).link =
      ⟨.locked, 0, [.flowMarker 1 .resume, .reply ⟨7#8, 40, .ok, []⟩], none⟩ := by decide +kernel

/-! ### Picture streams -/

/-- Stream 1 with a line in assembly: line 2, 5 pixels held. -/
def assembling : State :=
  ready.setStream 1 { small .running [0] with assembly := some ⟨2, List.replicate 5 1#16⟩ }

/-- The four cases of segment assembly at their boundaries, and the two kinds of stray. -/
theorem witness_SegmentAssembly :
    let take (f : List Byte) := (after (.linePacket .cabin f) assembling).stream 1
    (lineOf (lineFrame 1 15 0 [9#16])).isSome = true ∧
    (take (lineFrame 1 16 0 [9#16])).assembly = none ∧ (take (lineFrame 1 16 0 [9#16])).incompletes = 1 ∧
    (take (lineFrame 1 15 0 [9#16])).assembly = some ⟨15, [9#16]⟩ ∧
    (take (lineFrame 1 2 5 [9#16])).assembly = some ⟨2, List.replicate 5 1#16 ++ [9#16]⟩ ∧
    (take (lineFrame 1 2 6 [9#16])).assembly = none ∧ (take (lineFrame 1 3 5 [9#16])).assembly = none ∧
    ((after (.linePacket .cabin (lineFrame 2 0 0 [9#16])) assembling).stream 2).strays = 1 ∧
    ((after (.linePacket .camera (lineFrame 1 0 0 [9#16])) assembling).stream camera).strays = 1 := by
  decide +kernel

/-- Each state of a stream that a completed line meets. -/
theorem witness_LineCompletion :
    let done (st : StreamState) (lines : List Nat) (n : Nat) :=
      (after (.linePacket .cabin (lineFrame 1 n 0 px)) (ready.setStream 1 (small st lines))).stream 1
    let numbers (r : StreamRec) := r.queue.map QueueEntry.line
    (lineOf (lineFrame 1 0 0 px)).isSome = true ∧
    numbers (done .running [0] 1) = [0, 1] ∧
    numbers (done .running [0, 1] 2) = [0, 1] ∧ (done .running [0, 1] 2).overruns = 1 ∧
    numbers (done .running [4, 5] 0) = [0] ∧
    numbers (done .parked [4] 0) = [4, 0] ∧ numbers (done .parked [4, 5] 6) = [5, 6] ∧
    numbers (done .stalled [] 3) = [] ∧ (done .stalled [] 3).state = .priming ∧
    numbers (done .priming [] 0) = [0] ∧ (done .priming [] 0).state = .running := by decide +kernel

/-- The camera frame discard: a line 1, a line 0 with 2 to skip, a line 0 with 1 to skip. -/
theorem witness_LineCompletion_camera :
    let skipping (n : Nat) := ready.setStream camera
      { small .stalled [] with startsToSkip := n, capacity := 4, readyLevel := 2 }
    let done (n line : Nat) :=
      (after (.linePacket .camera (lineFrame 7 line 0 px)) (skipping n)).stream camera
    (done 1 1).startsToSkip = 1 ∧ (done 1 1).state = .priming ∧ (done 2 0).startsToSkip = 1 ∧
    (done 2 0).queue = [] ∧ (done 1 0).startsToSkip = 0 ∧ (done 1 0).queue = [⟨0, px⟩] ∧
    (done 1 0).state = .priming := by decide +kernel

/-- A PRIMING queue whose entries ahead of its line 0 are trimmed and which is promoted, turning the frame that takes
it to FILL; one without a line 0, and a full one; stream 7 promoted in SHOWING, and RUNNING. -/
theorem witness_LineCompletion_promotion :
    let frame : FrameRec :=
      { source := some 1, presentation := none, mode := .taking, window := none, nextRow := 0, holdRun := 0
        lastRow := none, shown := none, lostImage := none }
    let s (lines : List Nat) := (ready.setStream 1 (small .priming lines)).setScreen 1
      { ready.screen 1 with frame := some frame }
    let done (lines : List Nat) (n : Nat) := after (.linePacket .cabin (lineFrame 1 n 0 px)) (s lines)
    let numbers (r : StreamRec) := r.queue.map QueueEntry.line
    let camera7 (st : StreamState) (lines : List Nat) := after (.linePacket .camera (lineFrame 7 1 0 px))
      ((ready.setTakeover { TakeoverUnit.reset with state := .showing }).setStream camera
        { small st lines with readyLevel := 2 })
    (ready.stream camera).startsToSkip = 0 ∧
    numbers ((done [9, 0] 1).stream 1) = [0, 1] ∧ ((done [9, 0] 1).stream 1).state = .running ∧
    (((done [9, 0] 1).screen 1).frame.map FrameRec.mode) = some .fill ∧
    numbers ((done [9] 3).stream 1) = [] ∧ ((done [9] 3).stream 1).state = .priming ∧
    numbers ((done [0, 1] 2).stream 1) = [0, 1] ∧ ((done [0, 1] 2).stream 1).overruns = 1 ∧
    ((camera7 .priming [0]).stream camera).state = .running ∧
    ((camera7 .priming [0]).screen front).timing = .locked ∧
    ((camera7 .running [0]).stream camera).stallTimer = .running 4800 ∧
    ((camera7 .running [0, 3]).stream camera).overruns = 1 := by decide +kernel

/-- A segment from pixel 0 on that abandons a line in assembly, and one that goes on where the line in assembly ends. -/
theorem witness_LineCompletion_completedBy :
    let held : StreamRec := { small .running [0] with assembly := some ⟨1, px.take 8⟩, incompletes := 65534 }
    held.completedBy ⟨1, 2, 0, px⟩ { small .running [0] with incompletes := 65535 } ⟨2, px⟩ ∧
    held.completedBy ⟨1, 1, 8, px.take 9⟩ { small .running [0] with incompletes := 65534 } ⟨1, px⟩ :=
  ⟨⟨by decide, Or.inl ⟨rfl, by decide, rfl, rfl⟩⟩,
    by decide, Or.inr ⟨⟨1, px.take 8⟩, by decide, rfl, rfl, rfl, by decide, rfl, rfl⟩⟩

/-- Lines that the second of two segments completes, by the state of the stream, and a line that abandons another. -/
theorem witness_LineCompletion_segments :
    let held (r : StreamRec) (line : Nat) : StreamRec := { r with assembly := some ⟨line, px.take 8⟩ }
    let last (n : Nat) := Instr.linePacket .cabin (lineFrame 1 n 8 (px.take 9))
    let done (st : StreamState) (lines : List Nat) (n : Nat) :=
      (after (last n) (ready.setStream 1 (held (small st lines) n))).stream 1
    let numbers (r : StreamRec) := r.queue.map QueueEntry.line
    let abandoning := (after (.linePacket .cabin (lineFrame 1 2 0 px))
      (ready.setStream 1 (held (small .running [0]) 1))).stream 1
    (done .running [0] 1).queue = [⟨0, px⟩, ⟨1, px⟩] ∧ (done .running [0] 1).assembly = none ∧
    (done .running [0] 1).incompletes = 0 ∧ (done .running [0, 1] 2).overruns = 1 ∧
    numbers (done .running [4, 5] 0) = [0] ∧ numbers (done .parked [4] 0) = [4, 0] ∧
    numbers (done .parked [4, 5] 6) = [5, 6] ∧ (done .stalled [] 3).state = .priming ∧
    (done .priming [] 0).state = .running ∧ numbers (done .priming [9, 0] 1) = [0, 1] ∧
    numbers abandoning = [0, 2] ∧ abandoning.incompletes = 1 ∧ abandoning.assembly = none := by decide +kernel

/-- The last line 0 to skip with ready level 1, behind a queue that is not empty, and on a RUNNING stream 7. -/
theorem witness_LineCompletion_lastSkip :
    let done (st : StreamState) (lines : List Nat) (level : Nat) := after (.linePacket .camera (lineFrame 7 0 0 px))
      ((ready.setTakeover { TakeoverUnit.reset with state := .linger }).setStream camera
        { small st lines with startsToSkip := 1, readyLevel := level })
    let numbers (s : State) := (s.stream camera).queue.map QueueEntry.line
    ((done .stalled [] 1).stream camera).state = .running ∧ ((done .stalled [] 1).stream camera).startsToSkip = 0 ∧
    ((done .stalled [] 1).screen front).timing = .locked ∧ numbers (done .priming [5] 1) = [0] ∧
    numbers (done .priming [0] 3) = [0, 0] ∧ ((done .priming [0] 3).stream camera).state = .priming ∧
    numbers (done .running [0] 1) = [0, 0] := by decide +kernel

/-- A stall of stream 1 and of the camera in SHOWING, a timer not yet at its time, and the four unlocks. -/
theorem witness_StallAndCameraUnlock :
    let enabled := threeStreams.setInterp { ready.interp with enabled := Tab.replicate 12 true }
    let state (x : TakeoverState) := enabled.setTakeover { enabled.takeover with state := x }
    let stalled := after (.stallTimerExpiry camera) (state .showing)
    let with7 (r : StreamRec) := after .cameraLinkUnlock (ready.setStream camera r)
    let early := ready.setStream 1 { small .running [0] with stallTimer := .running 1 }
    after (.stallTimerExpiry 1) early = early ∧
    ((after (.stallTimerExpiry 1) enabled).stream 1).state = .stalled ∧
    ((after (.stallTimerExpiry camera) enabled).interp.causes.get Cause.cameraLost.index) = none ∧
    stalled.interp.causes.get Cause.cameraLost.index = some (.count 1) ∧ (stalled.screen front).timing = .free ∧
    ((with7 (small .priming [])).stream camera).stalls = 1 ∧
    ((with7 (small .running [0])).stream camera).queue = [] ∧
    (after .cameraLinkUnlock (state .showing)).interp.causes.get Cause.cameraLost.index = some (.count 1) ∧
    ((with7 (small .stalled [0])).stream camera).queue = [] ∧
    (with7 (small .closed [])).cameraLocked = false := by decide +kernel

/-- The unlock of a RUNNING stream 7 in the other states of the takeover. -/
theorem witness_StallAndCameraUnlock_states :
    let s (x : TakeoverState) := (threeStreams.setInterp
      { ready.interp with enabled := Tab.replicate 12 true }).setTakeover { TakeoverUnit.reset with state := x }
    let locked (x : TakeoverState) := (s x).setScreen 0 { (s x).screen 0 with timing := .locked }
    let lost (x : TakeoverState) :=
      ((after .cameraLinkUnlock (locked x)).interp.causes.get Cause.cameraLost.index,
        ((after .cameraLinkUnlock (locked x)).screen 0).timing)
    lost .switchingIn = (none, .locked) ∧ lost .linger = (some (.count 1), .free) ∧
    lost .switchingOut = (some (.count 1), .free) ∧ lost .showing = (some (.count 1), .free) := by decide +kernel

/-- OPEN STREAM and CLOSE STREAM at the boundaries of their checks. -/
theorem witness_OpenAndCloseStream :
    let ok (st : Word) := [st, 16#16, 16#16, 0#16, 2#16, 2#16, 10#16]
    let opened := run 1 .openStream (ok 0#16) ready
    let answers (l : List (List Word)) (s : State) := l.map fun ws => answer 1 .openStream ws s
    answers [ok 8#16, ok 7#16, ok 6#16, [6#16, 15#16, 16#16, 0#16, 2#16, 2#16, 10#16],
        [6#16, 17#16, 16#16, 1#16, 2#16, 2#16, 10#16], [6#16, 1920#16, 1080#16, 1#16, 32#16, 32#16, 1000#16]]
      ready =
      [some .badValue, some .reservedItem, some .ok, some .badValue, some .badValue, some .ok] ∧
    answers [ok 0#16] opened = [some .inUse] ∧
    answers [ok 0#16] (ready.setStream 5 { small .running [] with capacity := 127 }) = [some .noRoom] ∧
    (opened.stream 0).state = .priming ∧ opened.slotsReserved = 2 ∧
    answer 2 .closeStream [8#16] ready = some .badValue ∧
    answer 2 .closeStream [7#16] ready = some .reservedItem ∧
    answer 2 .closeStream [0#16] ready = some .ok ∧
    ((run 2 .closeStream [0#16] opened).stream 0).state = .closed := by decide +kernel

/-! ### Screens -/

/-- Fields of a screen record with a normal source. -/
def screenFields (nr src : Word) : List Word :=
  [nr, 320#16, 240#16, 60#16, src, 319#16, 239#16, 1#16, 2#16, 3#16, 15#16, 4#16, 5#16, 1#16]

theorem witness_WriteScreen :
    let s := run 4 .writeScreen (screenFields 1#16 6#16) ready
    answer 4 .writeScreen (screenFields 3#16 6#16) ready = some .badValue ∧
    answer 4 .writeScreen (screenFields 0#16 7#16) ready = some .badValue ∧
    answer 4 .writeScreen (screenFields 0#16 6#16) s = some .inUse ∧
    answer 4 .writeScreen (screenFields 1#16 6#16) s = some .ok ∧
    answer 4 .writeScreen (screenFields 0#16 0xFFFF#16) s = some .ok ∧
    (s.screen 1).shadow.source = some 6 ∧ (s.screen 1).shadow.cameraX = 0 ∧
    ((run 4 .writeScreen (screenFields 0#16 0xFFFF#16) s).screen 0).shadow.cameraX = 4 := by decide +kernel

/-- A screen of 320 × 240 that shows stream 1, started, without a frame so far. -/
def screening (k : ScreenId) : State :=
  let r : ScreenRecord := { ScreenRecord.reset true with width := 320, height := 240, source := some 1 }
  ready.setScreen k { ScreenUnit.reset true with active := r, shadow := r, started := true }

/-- A frame start with a line 0 queued behind a line 9, and one without a RUNNING source. -/
theorem witness_FreeFrameStart :
    let s := (screening 1).setStream 1 (small .running [9, 0])
    let t := after (.frameStart 1) s
    let u := after (.frameStart 1) (screening 1)
    let early := s.setScreen 1 { s.screen 1 with period := .running 1 }
    after (.frameStart 1) early = early ∧ (s.screen 1).period = .stopped ∧
    (s.screen 1).started = true ∧ (s.screen 1).timing = .free ∧ (s.screen 1).frame = none ∧
    ((t.screen 1).frame.map fun f => (f.mode, f.shown)) = some (.taking, some 1) ∧
    (t.stream 1).queue = [⟨0, px⟩] ∧ (t.screen 1).counter = 1 ∧
    t.link.back = [.frameMarker 1 (some 1) 1#8] ∧
    ((u.screen 1).frame.map fun f => (f.mode, f.shown)) = some (.fill, none) ∧
    u.link.back = [.frameMarker 1 none 1#8] := by decide +kernel

/-- A state with an item of last tag 9 pending for a group. -/
def itemFor (g : Group) (s : State) : State :=
  s.setTables { s.tables with items := s.tables.items.set g.index (some ⟨none, 9#8, none⟩) }

/-- A SCREEN item of a rear screen and of FRONT in NORMAL: released by its own screen's frame start, at frame 0 behind
255, left by another screen's, and held for SCREEN-FRONT alone by a save. -/
theorem witness_FreeFrameStart_item :
    let last (k : ScreenId) := (screening k).setScreen k { (screening k).screen k with counter := 255 }
    let left (g : Group) (s : State) := (s.item g, s.tables.outcomes.get g.index)
    let got (k : ScreenId) (g : Group) := left g (after (.frameStart k) (itemFor g (last k)))
    let held (k : ScreenId) (g : Group) := left g (after (.frameStart k) (saving (itemFor g (last k))))
    let stays (g : Group) := left g (itemFor g ready)
    got 0 .screenFront = (none, ⟨.applied, some 9#8, some ⟨0, 0#8⟩⟩) ∧
    got 1 .screenRearLeft = (none, ⟨.applied, some 9#8, some ⟨1, 0#8⟩⟩) ∧
    got 2 .screenRearRight = (none, ⟨.applied, some 9#8, some ⟨2, 0#8⟩⟩) ∧
    got 1 .screenRearRight = stays .screenRearRight ∧ got 1 .guide = stays .guide ∧ got 0 .mix = stays .mix ∧
    held 0 .screenFront = stays .screenFront ∧
    held 2 .screenRearRight = (none, ⟨.applied, some 9#8, some ⟨2, 0#8⟩⟩) := by decide +kernel

/-- A LOCKED frame start in SWITCHING_IN and in SHOWING. -/
theorem witness_LockedFrameStart :
    let s (x : TakeoverState) := (((screening 0).setStream camera (small .running [9, 0])).setTakeover
      { TakeoverUnit.reset with state := x, entryTimer := .running 5 }).setScreen 0
        { (screening 0).screen 0 with timing := .locked }
    let t := after .lockedFrameStart (s .switchingIn)
    (s .showing).released .screenFront = none ∧ ((s .showing).stream camera).state = .running ∧
    ((s .showing).stream camera).readyLevel = 1 ∧
    t.takeover.state = .showing ∧ t.takeover.entryTimer = .stopped ∧
    (t.interp.causes.get Cause.takeoverChange.index) = some (.count 1) ∧
    ((t.screen 0).frame.map fun f => (f.mode, f.presentation)) = some (.taking, some .picture) ∧
    (t.stream camera).queue = [⟨0, px⟩] ∧
    (after .lockedFrameStart (s .showing)).takeover.state = .showing := by decide +kernel

/-- A LOCKED frame start in SWITCHING_OUT with exit due clear and a normal source that is PRIMING, STALLED or PARKED:
the camera is still shown, in the camera window, and the entries ahead of its line 0 are removed; one line short of the
ready level there is no frame start. -/
theorem witness_LockedFrameStart_out :
    let s (x : StreamState) (ready7 : Nat) := ((((screening 0).setStream 1 (small x [])).setStream camera
      { small .running [9, 0, 1] with readyLevel := ready7 }).setTakeover { TakeoverUnit.reset with
        state := .switchingOut, exitTimer := .running 5 }).setScreen 0
          { (screening 0).screen 0 with timing := .locked }
    let t (x : StreamState) := after .lockedFrameStart (s x 2)
    let same (x : StreamState) := (t x).screen 0 = (t .priming).screen 0 ∧ (t x).takeover = (t .priming).takeover
    (t .priming).takeover = (s .priming 2).takeover ∧ same .stalled ∧ same .parked ∧
    ((t .parked).screen 0).timing = .locked ∧ ((t .parked).screen 0).period = .running 800 ∧
    (((t .parked).screen 0).frame.map fun f => (f.source, f.mode, f.presentation, f.shown)) =
      some (some 7, .taking, some .picture, some 7) ∧
    (((t .parked).screen 0).frame.bind FrameRec.window).map Window.mirror = some true ∧
    ((t .parked).stream camera).queue = [⟨0, px⟩, ⟨1, px⟩] ∧
    (t .parked).link.back = [.frameMarker 0 (some 7) 1#8] ∧
    after .lockedFrameStart (s .priming 3) = s .priming 3 := by decide +kernel

/-- FRONT in FREE timing and a takeover state, showing stream 1, with a lost image of one pixel. -/
def freeFront (x : TakeoverState) (due : Bool) (r1 r7 : StreamRec) : State :=
  { (((screening 0).setStream 1 r1).setStream camera r7).setTakeover
      { TakeoverUnit.reset with
        state := x, exitDue := due, settings := { TakeoverSettings.reset with lostImage := some 5 } } with
    overlay := { ready.overlay with images := ready.overlay.images.set 5 (some ⟨1, 1, .index8, 0, [0]⟩) } }

theorem witness_startsFrame :
    (freeFront .switchingOut false (small .running [0]) (small .stalled [])).startsFrame front (.frameStart 0) := by
  refine ⟨rfl, ?_, Or.inl ⟨rfl, rfl, Or.inl rfl⟩⟩
  intro f h
  cases h

/-- FRONT frame starts in FREE timing: the end of SWITCHING_OUT by a RUNNING source and by exit due; a LOST frame; a
PICTURE frame that takes and one that misses. -/
theorem witness_LockedFrameStart_free :
    let frame (s : State) := ((after (.frameStart 0) s).screen 0).frame
    let mode (s : State) := (frame s).map fun f => (f.mode, f.presentation)
    let shows (s : State) := (frame s).map fun f => (f.shown, f.lostImage)
    let out (due : Bool) (r : StreamRec) := freeFront .switchingOut due r (small .stalled [])
    let shown (x : TakeoverState) (r7 : StreamRec) := freeFront x false (small .parked []) r7
    (after (.frameStart 0) (out false (small .running [0]))).takeover.state = .normal ∧
    mode (out false (small .running [0])) = some (.taking, none) ∧
    shows (out false (small .running [0])) = some (some 1, none) ∧
    mode (out true (small .priming [])) = some (.fill, none) ∧
    (after (.frameStart 0) (out false (small .priming []))).takeover.state = .switchingOut ∧
    mode (out false (small .priming [])) = some (.fill, some .lost) ∧
    shows (shown .showing (small .stalled [])) = some (none, some 5) ∧
    mode (shown .linger (small .running [3, 0])) = some (.taking, some .picture) ∧
    shows (shown .linger (small .running [3, 0])) = some (some 7, none) ∧
    mode (shown .showing (small .running [3])) = some (.fill, some .picture) := by decide +kernel

/-- FRONT with a SCREEN-FRONT item that names stream 2 in place of stream 1. -/
def resourced (x : TakeoverState) (r1 r2 r7 : StreamRec) : State :=
  let s := (freeFront x false r1 r7).setStream 2 r2
  (s.setScreen 0 { s.screen 0 with shadow := { (s.screen 0).shadow with source := some 2 } }).setTables
    { s.tables with items := s.tables.items.set Group.screenFront.index (some ⟨none, 9#8, none⟩) }

/-- The item applied in SHOWING, LINGER and SWITCHING_IN: the old source unparked to RUNNING or to PRIMING, the new one
parked; in SWITCHING_OUT no source is parked or unparked. -/
theorem witness_LockedFrameStart_sources :
    let states (t : State) := ((t.stream 1).state, (t.stream 2).state)
    let free (x : TakeoverState) (lines : List Nat) :=
      after (.frameStart 0) (resourced x (small .parked lines) (small .running [0]) (small .stalled []))
    let out := resourced .switchingOut (small .running [0]) (small .priming []) (small .stalled [])
    let s7 := resourced .switchingIn (small .parked [0]) (small .stalled []) (small .running [0])
    let entering := after .lockedFrameStart (s7.setScreen 0 { s7.screen 0 with timing := .locked })
    (resourced .showing (small .parked [0]) (small .running [0]) (small .stalled [])).released .screenFront =
      some ⟨none, 9#8, none⟩ ∧
    states (free .showing [0]) = (.running, .parked) ∧ states (free .linger [3]) = (.priming, .parked) ∧
    ((free .showing [0]).screen 0).active.source = some 2 ∧ (free .showing [0]).item .screenFront = none ∧
    ((free .showing [0]).stream 1).stallTimer = .running 480 ∧
    states entering = (.running, .parked) ∧ entering.takeover.state = .showing ∧
    (after (.frameStart 0) out).streams = out.streams ∧ (after (.frameStart 0) out).takeover.state = .switchingOut ∧
    ((after (.frameStart 0) out).screen 0).active.source = some 2 := by decide +kernel

theorem witness_LockedFrameStart_startsFrame :
    (resourced .showing (small .parked [0]) (small .running [0]) (small .stalled [])).startsFrame front
      (.frameStart 0) := by
  refine ⟨rfl, ?_, Or.inl ⟨rfl, rfl, Or.inl rfl⟩⟩
  intro f h
  cases h

/-- The frame of a start that applies a SCREEN-FRONT item: the camera in the window of the new record, taken, missed and
LOST, and the item's outcome record. -/
theorem witness_LockedFrameStart_item :
    let moved (s : State) := s.setScreen 0 { s.screen 0 with
      shadow := { (s.screen 0).shadow with cameraX := 17 } }
    let t (r7 : StreamRec) := after (.frameStart 0) (moved (resourced .showing (small .parked []) (small .closed []) r7))
    let frame (r7 : StreamRec) := ((t r7).screen 0).frame.map fun f => (f.mode, f.presentation, f.lostImage)
    let seven := small .running [3, 0]
    frame seven = some (.taking, some .picture, none) ∧ ((t seven).stream camera).queue = [⟨0, px⟩] ∧
    (((t seven).screen 0).frame.bind FrameRec.window).map Window.left = some 17 ∧
    frame (small .running [3]) = some (.fill, some .picture, none) ∧
    frame (small .stalled [0]) = some (.fill, some .lost, some 5) ∧
    ((t (small .stalled [0])).stream camera).queue = [⟨0, px⟩] ∧
    (t seven).tables.outcomes.get Group.screenFront.index = ⟨.applied, some 9#8, some ⟨0, 1#8⟩⟩ := by decide +kernel

/-- A frame of screen 1 that takes stream 1 in a window of 16 × 16 at the origin. -/
def taking (row : Nat) (lines : List Nat) : State :=
  let s := (screening 1).setStream 1 (small .running lines)
  s.setScreen 1 { s.screen 1 with
    active := { (s.screen 1).active with width := 17 }
    frame := some
      { source := some 1, presentation := none, mode := .taking, window := some ⟨0, 0, 16, 16, false⟩
        nextRow := row, holdRun := 0, lastRow := none, shown := some 1, lostImage := none } }

/-- A window row with its line, and one whose line has not come; the first row and the last. -/
theorem witness_WindowRowDemand :
    let row (s : State) := ((s.ports.display.get 1).map DisplayRow.pixels).getD []
    (row (after (.lineDemand 1) (taking 0 [0]))) = List.replicate 16 ⟨255#8, 0#8, 0#8⟩ ++ [⟨0#8, 0#8, 0#8⟩] ∧
    ((after (.lineDemand 1) (taking 15 [3, 15])).stream 1).queue = [] ∧
    ((after (.lineDemand 1) (taking 15 [3])).stream 1).underruns = 1 ∧
    row (after (.lineDemand 1) (taking 15 [3])) = List.replicate 17 ⟨0#8, 0#8, 0#8⟩ := by decide +kernel

/-- Nine objects of one pixel on the first row of screen 1, all drawn from one image. -/
def crowded (s : State) : State :=
  let object (e : Fin 96) : ActiveCopy := ⟨e, ⟨1, .menu, 3, 0, 0, 0, 255, true, true, none, none⟩, none⟩
  let sc := s.overlay.screens.get 1
  { s with
    overlay := { s.overlay with
      images := s.overlay.images.set 3 (some ⟨1, 1, .index8, 0, [0]⟩)
      screens := s.overlay.screens.set 1 { sc with list := (List.finRange 96).take 9 |>.map object } }
    interp := { s.interp with enabled := Tab.replicate 12 true } }

/-- A source that has left RUNNING, a row below the window, a row of FRONT without a window, and a span overflow. -/
theorem witness_WindowRowDemand_any :
    let mode (t : State) := (t.screen 1).frame.map FrameRec.mode
    let left := after (.lineDemand 1) ((taking 0 [0]).setStream 1 (small .stalled [0]))
    let below := after (.lineDemand 1) (taking 16 [16])
    let frontRow := after (.lineDemand 0) (after (.frameStart 0) (screening 0))
    let nine := after (.lineDemand 1) (crowded (taking 0 [0]))
    mode left = some .fill ∧ (left.stream 1).queue = [⟨0, px⟩] ∧
    mode below = some .taking ∧ (below.stream 1).queue = [⟨16, px⟩] ∧
    (frontRow.ports.display.get 0).map DisplayRow.row = some 0 ∧
    ((crowded (taking 0 [0])).overlay.candidates 1 false 0).length = 9 ∧
    (nine.overlay.screens.get 1).overflows = 1 ∧ (nine.overlay.screens.get 1).raised = true ∧
    nine.interp.causes.get Cause.spanOverflow.index = some (.members ((FlagSet.empty 16).insert 1)) ∧
    (after (.lineDemand 1) (crowded (taking 16 [16]))).interp.causes = ready.interp.causes := by decide +kernel

/-- The lost image centred in a window: its first and last pixel, and the pixels beside them. -/
theorem witness_BlendFormula :
    let s : State := { ready with
      overlay := { ready.overlay with images := ready.overlay.images.set 5 (some ⟨2, 2, .index8, 0, [0]⟩) } }
    let f : FrameRec :=
      { source := some camera, presentation := some .lost, mode := .fill, window := some ⟨10, 20, 6, 4, false⟩
        nextRow := 0, holdRun := 0, lastRow := none, shown := none, lostImage := some 5 }
    let at' (row col : Nat) := (s.lostPixel 0 f row col).isSome
    at' 21 12 = true ∧ at' 22 13 = true ∧ at' 21 11 = false ∧ at' 22 14 = false ∧ at' 20 12 = false ∧
    at' 23 13 = false := by decide +kernel

/-! ### Vehicle signals -/

/-- The sampling of the reverse line: an agreeing sample, a third differing one, the fourth, the fourth with the
controller started, and a timer not yet at its time. -/
theorem witness_ReverseLineFilter :
    let filter (n : Nat) := ready.setSignals { ready.signals with
      filter := { ready.signals.filter with agree := n, timer := .running 0 } }
    let early := ready.setSignals { ready.signals with
      filter := { ready.signals.filter with agree := 3, timer := .running 1 } }
    let parked := ((screening 0).setStream 1 (small .running [0])).setTakeover
      { TakeoverUnit.reset with started := true }
    let engaged := after (.reverseLineSample .high) (parked.setSignals (filter 3).signals)
    after (.reverseLineSample .high) early = early ∧
    ((after (.reverseLineSample .low) (filter 2)).signals.filter.agree) = 0 ∧
    ((after (.reverseLineSample .high) (filter 2)).signals.filter.agree) = 3 ∧
    ((after (.reverseLineSample .high) (filter 3)).signals.filter) = ⟨.engaged, 0, .running 240, .engaged⟩ ∧
    ((after (.reverseLineSample .high) (filter 3)).signals.request) = .engaged ∧
    engaged.takeover.reverse = true ∧ engaged.takeover.state = .switchingIn ∧
    engaged.takeover.entryTimer = .running 14400 ∧ (engaged.screen front).timing = .locked ∧
    (engaged.stream 1).state = .parked ∧ (engaged.stream camera).state = .priming ∧
    (engaged.stream camera).startsToSkip = 2 := by decide +kernel

/-- The fourth ENGAGED sample in every other state of the takeover: the claim, the state, the timers, the source of FRONT
and its timing. -/
theorem witness_ReverseLineFilter_engaged :
    let s (x : TakeoverState) (camera7 : StreamRec) := ((((screening 0).setStream 1 (small .priming [2, 3])).setStream
      camera camera7).setTakeover { TakeoverUnit.reset with
        started := true, state := x, lingerTimer := .running 7, exitTimer := .running 8, exitDue := true }).setSignals
          { ready.signals with filter := ⟨.released, 3, .running 0, .released⟩ }
    let taken (x : TakeoverState) := after (.reverseLineSample .high) (s x (small .running []))
    let out := taken .switchingOut
    let lost := after (.reverseLineSample .high) (s .switchingOut (small .stalled []))
    (taken .switchingIn).takeover.state = .switchingIn ∧ (taken .showing).takeover.state = .showing ∧
    (taken .showing).takeover.reverse = true ∧ (taken .showing).takeover.lingerTimer = .running 7 ∧
    ((taken .showing).stream 1).state = .priming ∧ (taken .linger).takeover.state = .showing ∧
    (taken .linger).takeover.lingerTimer = .stopped ∧ ((taken .linger).stream 1).state = .priming ∧
    out.takeover.state = .showing ∧ out.takeover.exitTimer = .stopped ∧ out.takeover.exitDue = false ∧
    (out.stream 1).state = .parked ∧ (out.screen front).timing = .locked ∧ (lost.screen front).timing = .free ∧
    out.takeover.reverseChanged = true := by decide +kernel

/-- The fourth RELEASED sample: with MANUAL claimed, with a linger time, without one, with SPEED above the limit by 1,
and from SWITCHING_IN. -/
theorem witness_ReverseLineFilter_released :
    let s (x : TakeoverState) (manual : Bool) (linger : Nat) (speed : Int) :=
      (((screening 0).setStream 1 (small .parked [2, 3])).setTakeover { TakeoverUnit.reset with
        started := true, state := x, reverse := true, manual := manual
        settings := { TakeoverSettings.reset with lingerTime := linger, lingerSpeed := 100 } }).setSignals
          { ready.signals with
            filter := ⟨.engaged, 3, .running 0, .engaged⟩, request := .engaged
            records := ready.signals.records.set Target.speed.index ⟨speed, .fresh, .running 5, false, false⟩ }
    let released (x : TakeoverState) (manual : Bool) (linger : Nat) (speed : Int) :=
      after (.reverseLineSample .low) (s x manual linger speed)
    (s .showing false 3 100).signals.settings.source = .line ∧
    (s .showing false 3 100).signals.settings.polarity = .activeHigh ∧
    (released .showing true 3 100).takeover.state = .showing ∧ (released .showing true 3 100).takeover.reverse = false ∧
    (released .showing false 3 100).takeover.state = .linger ∧
    (released .showing false 3 100).takeover.lingerTimer = .running 14400 ∧
    (released .showing false 0 100).takeover.state = .switchingOut ∧
    (released .showing false 3 101).takeover.state = .switchingOut ∧
    (released .switchingIn false 3 100).takeover.state = .switchingOut ∧
    ((released .switchingIn false 3 100).stream 1).state = .priming := by decide +kernel

/-- The fourth RELEASED sample in the states that only lose the claim, and the way out with a parked source that the
unpark returns to RUNNING under a TAKING frame. -/
theorem witness_ReverseLineFilter_left :
    let s (x : TakeoverState) := (((taking 0 []).setStream 1 (small .parked [0])).setTakeover
      { TakeoverUnit.reset with started := true, state := x, reverse := true }).setSignals
        { ready.signals with filter := ⟨.engaged, 3, .running 0, .engaged⟩, request := .engaged }
    let t (x : TakeoverState) := after (.reverseLineSample .low) (s x)
    let only (x : TakeoverState) := (t x).takeover = { (s x).takeover with reverse := false, reverseChanged := true } ∧
      (t x).streams = (s x).streams ∧ (t x).screens = (s x).screens
    let showing (x : TakeoverState) := after (.reverseLineSample .low) ((s x).setScreen 0
      { (s x).screen 1 with timing := .locked })
    only .normal ∧ only .linger ∧ only .switchingOut ∧ ((showing .switchingIn).stream 1).state = .running ∧
    ((showing .switchingIn).screen 0).timing = .free ∧
    (((showing .switchingIn).screen 0).frame.map FrameRec.mode) = some .fill ∧
    (((showing .switchingIn).screen 1).frame.map FrameRec.mode) = some .fill := by decide +kernel

/-- A map entry for 11-bit identifier 5: two bytes from byte 1, most significant first, scaled by 1/2. -/
def entry : SignalEntry where
  extended := false
  ident := 5
  startByte := 1
  bitOffset := 0
  length := 16
  order := .msbFirst
  signed := true
  multiplier := 1
  shift := 1
  offset := 10
  staleTimeout := 100

/-- The part with STEER and SPEED mapped to that entry. -/
def mapped : State :=
  ready.setSignals { ready.signals with
    map := (ready.signals.map.set Target.steer.index (some entry)).set Target.speed.index (some entry) }

/-- The value extracted from a negative field, and its clamp. -/
theorem test_extraction :
    entry.scaled [0#8, 0xFF#8, 0xFD#8] = 8 ∧
    (SignalRec.apply .speed 100 3001 (SignalRec.reset .speed)).value = 3000 ∧
    (SignalRec.apply .speed 100 3001 (SignalRec.reset .speed)).clamped = true ∧
    (SignalRec.apply .steer 100 (-7801) (SignalRec.reset .steer)).value = -7800 := by decide +kernel

/-- The timer restarted, and the changed flag at an equal value, at another one, and over another state. -/
theorem test_application :
    let fresh : SignalRec := ⟨7, .fresh, .running 3, false, false⟩
    (SignalRec.apply .steer 100 7 fresh) = ⟨7, .fresh, .running 4800, false, false⟩ ∧
    (SignalRec.apply .steer 100 8 fresh).changed = true ∧
    (SignalRec.apply .steer 100 7 { fresh with state := .stale }).changed = true := by decide +kernel

/-- A matching frame, a short one, one of another identifier. -/
theorem witness_CanFrameReception :
    let frame (id : Nat) (n : Nat) : CanFrame := ⟨false, id, false, n, List.replicate n 1#8⟩
    let got (f : CanFrame) := (after (.receivedCanFrame f) mapped)
    (frame 5 3).wellFormed = true ∧ (frame 5 2).wellFormed = true ∧ (frame 6 3).wellFormed = true ∧
    entry.bytesNeeded = 3 ∧
    ((got (frame 5 3)).signal .steer).value = 138 ∧ ((got (frame 5 3)).signal .steer).state = .fresh ∧
    (got (frame 5 2)).signals.shortFrames = 2 ∧ ((got (frame 5 2)).signal .steer).state = .never ∧
    got (frame 6 3) = mapped := by decide +kernel

/-- A DIST record changed with REVERSE claimed, and a REVERSE record changed under source CAN: the nearest distance, the
request, the claim and the park tone's judgement follow. -/
theorem witness_CanFrameReception_formed :
    let e : SignalEntry := { entry with offset := 0, shift := 0, length := 8 }
    let s (x : Target) (reverse : Bool) := ((ready.setSignals { ready.signals with
        settings := { ready.signals.settings with source := .can }
        map := ready.signals.map.set x.index (some e) }).setTakeover
          { TakeoverUnit.reset with started := true, reverse := reverse, state := .showing }).setChimes
      { ready.chimes with rates := ⟨[⟨50, 10⟩], 5⟩ }
    let got (x : Target) (reverse : Bool) (v : Byte) :=
      after (.receivedCanFrame ⟨false, 5, false, 2, [0#8, v]⟩) (s x reverse)
    (got .dist0 true 49#8).signals.nearest = ⟨49, true⟩ ∧ (got .dist0 true 49#8).chimes.eligible = true ∧
    (got .dist0 true 50#8).chimes.eligible = false ∧ (got .dist0 true 50#8).chimes.judgedOn = ⟨50, true⟩ ∧
    (got .reverse false 1#8).signals.request = .engaged ∧ (got .reverse false 1#8).takeover.reverse = true ∧
    (got .reverse false 1#8).takeover.reverseChanged = true ∧
    (got .reverse false 0#8).signals.request = .released ∧
    (got .reverse false 0#8).chimes = { ready.chimes with rates := ⟨[⟨50, 10⟩], 5⟩ } := by decide +kernel

/-- A remote frame that an entry names, and a frame of a length code without its bytes. -/
theorem witness_CanFrameReception_remote :
    after (.receivedCanFrame ⟨false, 5, true, 3, []⟩) mapped = mapped ∧
    CanFrame.wellFormed ⟨false, 5, true, 3, []⟩ = true ∧
    CanFrame.wellFormed ⟨false, 5, false, 4, [0#8, 1#8, 1#8]⟩ = false ∧
    after (.receivedCanFrame ⟨false, 5, false, 4, [0#8, 1#8, 1#8]⟩) mapped = mapped := by decide +kernel

/-- SPEED from the first byte of frame 5 and REVERSE from bit 0 of the second, in a takeover state with both claims as
given, source CAN, REVERSE FRESH at `held` and its request. -/
def edging (x : TakeoverState) (manual : Bool) (held : Nat) : State :=
  let e : SignalEntry := { entry with startByte := 0, length := 8, signed := false, shift := 0, offset := 0 }
  let map := (ready.signals.map.set Target.speed.index (some e)).set Target.reverse.index
    (some { e with startByte := 1, length := 1 })
  (((screening 0).setStream 1 (small .parked [0])).setTakeover { TakeoverUnit.reset with
    started := true, state := x, reverse := decide (held = 1), manual := manual
    settings := { TakeoverSettings.reset with lingerTime := 3, lingerSpeed := 100, manualSpeed := 150 } }).setSignals
      { ready.signals with
        settings := { ready.signals.settings with source := .can }, map := map
        request := if held = 1 then .engaged else .released
        records := ready.signals.records.set Target.reverse.index ⟨held, .fresh, .running 0, false, false⟩ }

/-- One frame with SPEED and REVERSE: a RELEASED edge at the linger limit and above it by 1, with MANUAL claimed at and
above its limit; an ENGAGED edge behind the end of LINGER, with the parked source unparked and parked again. -/
theorem witness_CanFrameReception_edges :
    let got (x : TakeoverState) (manual : Bool) (held : Nat) (v r : Byte) :=
      after (.receivedCanFrame ⟨false, 5, false, 2, [v, r]⟩) (edging x manual held)
    let released (manual : Bool) (v : Byte) := (got .showing manual 1 v 0#8).takeover
    let back := got .linger false 0 101#8 1#8
    (released false 100#8).state = .linger ∧ (released false 100#8).lingerTimer = .running 14400 ∧
    (released false 101#8).state = .switchingOut ∧ (released true 150#8).state = .showing ∧
    (released true 150#8).manual = true ∧ (released true 151#8).state = .switchingOut ∧
    (released true 151#8).speedRemoved = true ∧ (released true 151#8).reverse = false ∧
    back.takeover.state = .showing ∧ back.takeover.exitTimer = .stopped ∧ back.takeover.reverse = true ∧
    (back.stream 1).state = .parked ∧ (got .showing true 1 151#8 1#8).takeover.manual = false ∧
    (got .showing true 1 151#8 1#8).takeover.state = .showing ∧
    (got .switchingIn false 1 0#8 0#8).takeover.state = .switchingOut := by decide +kernel

/-- A RELEASED edge by the expiry of REVERSE's stale timer, by a change of the reverse source, and by the entry removed. -/
theorem witness_StaleAndFormedSignals_released :
    let s := edging .showing false 1
    let lost := after (.staleTimerExpiry .reverse) s
    let line := run 6 .writeSignalSettings [5#16, 0#16, 0#16, 500#16] s
    let removed := run 7 .writeSignalEntry [6#16, 0xFFFF#16] s
    (s.signal .reverse).timer = .running 0 ∧ s.signals.request = .engaged ∧
    lost.signals.request = .released ∧ lost.takeover.state = .linger ∧ lost.takeover.lingerTimer = .running 14400 ∧
    line.signals.request = .released ∧ line.takeover.state = .linger ∧ (line.stream 1).state = .parked ∧
    removed.signals.request = .released ∧ removed.takeover.state = .linger ∧
    (after (.staleTimerExpiry .reverse) (edging .switchingIn false 1)).takeover.state = .switchingOut ∧
    ((after (.staleTimerExpiry .reverse) (edging .switchingIn false 1)).stream 1).state = .running := by decide +kernel

/-- The expiry of a stale timer of STEER and of DIST_0, the last FRESH distance. -/
theorem witness_StaleAndFormedSignals :
    let fresh : SignalRec := ⟨100, .fresh, .running 0, false, false⟩
    let s := (mapped.setSignals { mapped.signals with
      records := (mapped.signals.records.set Target.steer.index fresh).set Target.dist0.index fresh
      nearest := ⟨100, true⟩ }).setInterp
      { ready.interp with enabled := Tab.replicate 12 true }
    let t := after (.staleTimerExpiry .dist0) s
    let early := s.setSignals { s.signals with
      records := s.signals.records.set Target.dist0.index { fresh with timer := .running 1 } }
    after (.staleTimerExpiry .dist0) early = early ∧
    (s.signal .dist0).state = .fresh ∧ (s.signal .dist0).timer = .running 0 ∧
    (t.signal .dist0) = ⟨100, .stale, .stopped, false, true⟩ ∧ t.signals.nearest = ⟨1000, false⟩ ∧
    t.interp.causes.get Cause.signalStale.index = some (.members ((FlagSet.empty 16).insert 2)) ∧
    s.signals.formNearest = ⟨100, true⟩ ∧ t.signals.formNearest = ⟨1000, false⟩ ∧
    (after (.staleTimerExpiry .steer) s).signals.nearest = ⟨100, true⟩ := by decide +kernel

/-- The writes of the vehicle signals. -/
theorem witness_SignalTableWrites :
    let s := run 6 .writeSignalSettings [10#16, 1#16, 2#16, 125#16] ready
    let e := run 7 .writeSignalEntry (0#16 :: signalEntryWords entry) ready
    ready.loader.saveStep = .none ∧
    signalSettingsOf 10#16 1#16 2#16 125#16 = some ⟨10, .activeLow, .either, 125⟩ ∧
    signalEntryOf (signalEntryWords entry) = some entry ∧
    s.signals.settings = ⟨10, .activeLow, .either, 125⟩ ∧ s.signals.filter.timer = .running 480 ∧
    e.signals.map.get 0 = some entry ∧
    (run 7 .writeSignalEntry [0#16, 0xFFFF#16] e).signals.map.get 0 = none ∧
    answer 6 .writeSignalSettings [10#16, 1#16, 2#16, 125#16] (saving ready) = some .busy ∧
    answer 7 .writeSignalEntry (6#16 :: signalEntryWords entry) (saving ready) = some .busy ∧
    answer 7 .writeSignalEntry [6#16, 0xFFFF#16] (saving ready) = some .busy ∧
    answer 7 .writeSignalEntry [7#16, 0xFFFF#16] ready = some .badValue := by decide +kernel

/-- The refused values of the settings and of an entry, each past its bound by 1, and the request worked out again when
the source becomes EITHER. -/
theorem witness_SignalTableWrites_refusals :
    let settings (ws : List Word) := answer 6 .writeSignalSettings ws ready
    let fields := signalEntryWords { entry with startByte := 6 }
    let entries (l : List (Nat × Word)) :=
      answer 7 .writeSignalEntry (1#16 :: l.foldl (fun ws x => ws.set x.1 x.2) fields) ready
    let can := ready.setSignals { ready.signals with
      records := ready.signals.records.set Target.reverse.index ⟨1, .fresh, .running 5, false, false⟩ }
    [settings [3#16, 0#16, 0#16, 125#16], settings [10#16, 2#16, 0#16, 125#16], settings [10#16, 1#16, 3#16, 125#16],
      settings [10#16, 1#16, 2#16, 100#16], entries [(0, 2#16)], entries [(2, 2048#16)],
      entries [(0, 1#16), (1, 8192#16)], entries [(3, 7#16)], entries [(4, 1#16)], entries [(5, 0#16)],
      entries [(5, 17#16)], entries [(6, 2#16)], entries [(7, 2#16)], entries [(9, 16#16)], entries [(11, 9#16)],
      entries [(11, 2001#16)], answer 7 .writeSignalEntry [1#16, 0#16] ready].all
        (fun r => decide (r = some .badValue)) = true ∧
    [entries [], entries [(2, 2047#16)], entries [(0, 1#16), (1, 8191#16)], entries [(4, 1#16), (5, 15#16)],
      entries [(3, 7#16), (5, 8#16)], entries [(9, 15#16)], entries [(11, 10#16)], entries [(11, 2000#16)]].all
        (fun r => decide (r = some .ok)) = true ∧
    (run 6 .writeSignalSettings [5#16, 0#16, 2#16, 500#16] can).signals.request = .engaged := by decide +kernel

/-! ### Camera takeover -/

/-- The part with a takeover state, stream 1 parked behind it. -/
def inTakeover (x : TakeoverState) : State :=
  ((screening 0).setStream 1 (small .parked [2, 3])).setTakeover
    { TakeoverUnit.reset with
      started := true, state := x, manual := true
      entryTimer := if x = .switchingIn then .running 0 else .stopped
      lingerTimer := if x = .linger then .running 0 else .stopped
      exitTimer := if x = .switchingOut then .running 0 else .stopped }

theorem witness_TakeoverTimerExpiries :
    let running := (inTakeover .switchingIn).setStream camera (small .running [0])
    let lost := after .entryDeadlineExpiry (inTakeover .switchingIn)
    let left := after .lingerTimerExpiry (inTakeover .linger)
    let late := (inTakeover .switchingIn).setTakeover { (inTakeover .switchingIn).takeover with
      entryTimer := .running 1, lingerTimer := .running 1, exitTimer := .running 1 }
    after .entryDeadlineExpiry late = late ∧ after .lingerTimerExpiry late = late ∧
    after .exitDeadlineExpiry late = late ∧
    lost.takeover.state = .showing ∧ lost.interp.causes.get Cause.cameraLost.index = some (.count 1) ∧
    (after .entryDeadlineExpiry running).takeover.state = .showing ∧
    (after .entryDeadlineExpiry running).interp.causes.get Cause.cameraLost.index = none ∧
    (after .entryDeadlineExpiry (inTakeover .showing)) = inTakeover .showing ∧
    left.takeover.state = .switchingOut ∧ left.takeover.exitTimer = .running 24000 ∧
    (left.stream 1).state = .priming ∧ (left.stream 1).queue = (small .parked [2, 3]).queue ∧
    (after .exitDeadlineExpiry (inTakeover .switchingOut)).takeover.exitDue = true := by decide +kernel

/-- The manual view: too fast by 1, claimed already, from NORMAL, and its end in each state. -/
theorem witness_StartAndStopView :
    let speed (v : Int) := (ready.setSignals { ready.signals with
      records := ready.signals.records.set Target.speed.index ⟨v, .fresh, .running 5, false, false⟩ }).setTakeover
        { TakeoverUnit.reset with started := true }
    let claims (x : TakeoverState) (reverse manual : Bool) := (inTakeover x).setTakeover
      { (inTakeover x).takeover with reverse := reverse, manual := manual }
    answer 10 .startView [] (speed 151) = some .speedHigh ∧ answer 10 .startView [] (speed 150) = some .ok ∧
    (run 10 .startView [] (speed 150)).takeover.state = .switchingIn ∧
    (run 10 .startView [] (speed 150)).takeover.manual = true ∧
    (run 10 .startView [] (claims .linger false false)).takeover.state = .showing ∧
    (run 10 .startView [] (claims .switchingOut false false)).takeover.state = .showing ∧
    (run 10 .startView [] (claims .switchingIn true false)).takeover.state = .switchingIn ∧
    answer 10 .startView [] (inTakeover .showing) = some .ok ∧
    answer 11 .stopView [] (claims .showing true true) = some .reverseHeld ∧
    (run 11 .stopView [] (claims .showing true true)).takeover.manual = false ∧
    answer 11 .stopView [] (claims .showing false true) = some .ok ∧
    (run 11 .stopView [] (claims .showing false true)).takeover.state = .switchingOut ∧
    (run 11 .stopView [] (claims .linger false false)).takeover.state = .switchingOut ∧
    answer 11 .stopView [] (claims .normal false false) = some .ok := by decide +kernel

/-- A SPEED value above and at the limits: MANUAL removed with and without REVERSE, LINGER ended, and neither. -/
theorem witness_StartAndStopView_speed :
    let e : SignalEntry := { entry with length := 16, signed := false, shift := 0, offset := 0 }
    let f : CanFrame := ⟨false, 5, false, 3, [0#8, 0#8, 101#8]⟩
    let s (x : TakeoverState) (reverse manual : Bool) (limit : Nat) := ((inTakeover x).setTakeover
      { (inTakeover x).takeover with
        reverse := reverse, manual := manual
        settings := { TakeoverSettings.reset with manualSpeed := limit, lingerSpeed := limit } }).setSignals
          { ready.signals with map := ready.signals.map.set Target.speed.index (some e) }
    let got (x : TakeoverState) (reverse manual : Bool) (limit : Nat) :=
      (after (.receivedCanFrame f) (s x reverse manual limit)).takeover
    f.wellFormed = true ∧ e.bytesNeeded = 3 ∧ e.scaled f.data = 101 ∧
    ((s .showing true true 100).signal .speed).state = .never ∧
    (got .showing true true 100).state = .showing ∧ (got .showing true true 100).speedRemoved = true ∧
    (got .showing false true 100).state = .switchingOut ∧ (got .showing false true 100).manual = false ∧
    (got .linger false false 100).state = .switchingOut ∧ (got .linger false false 101).state = .linger ∧
    (got .showing false true 101).manual = true := by decide +kernel

/-- START VIEW from NORMAL and from SWITCHING_OUT, and STOP VIEW from SHOWING and LINGER: streams, timing and timers. -/
theorem witness_StartAndStopView_streams :
    let s (x : TakeoverState) (manual : Bool) (r1 r7 : StreamRec) := (((inTakeover x).setTakeover
      { (inTakeover x).takeover with manual := manual }).setStream 1 r1).setStream camera r7
    let entered := run 10 .startView [] (s .normal false (small .running [0]) (small .closed []))
    let back (r7 : StreamRec) := run 10 .startView [] (s .switchingOut false (small .priming [2]) r7)
    let left (x : TakeoverState) (manual : Bool) :=
      run 11 .stopView [] (s x manual (small .parked [0, 3]) (small .running []))
    entered.takeover.entryTimer = .running 14400 ∧ (entered.stream 1).state = .parked ∧
    entered.stream camera = { small .closed [] with
      state := .priming, width := 1280, height := 720, format := .ycbcr422, capacity := 16, readyLevel := 4
      startsToSkip := 2 } ∧
    (entered.screen front).timing = .locked ∧
    (run 10 .startView [] (inTakeover .linger |>.setTakeover { (inTakeover .linger).takeover with
      manual := false })).takeover.lingerTimer = .stopped ∧
    (back (small .running [])).takeover.exitTimer = .stopped ∧
    ((back (small .running [])).screen front).timing = .locked ∧
    ((back (small .stalled [])).screen front).timing = .free ∧ ((back (small .stalled [])).stream 1).state = .parked ∧
    (left .showing true).takeover.exitTimer = .running 24000 ∧ ((left .showing true).stream 1).state = .running ∧
    ((left .showing true).screen front).timing = .locked ∧ (left .linger false).takeover.lingerTimer = .stopped ∧
    ((left .linger false).stream 1).queue = (small .parked [0, 3]).queue := by decide +kernel

/-- The default settings written again, with another ready level, with each refusal, and over a RUNNING stream 7. -/
theorem witness_WriteTakeoverSettings :
    let t := TakeoverSettings.reset
    let s := ready.setTakeover { TakeoverUnit.reset with started := true }
    let with' (i : Nat) (w : Word) := (takeoverWords t).set i w
    let shown := (s.setTakeover { s.takeover with state := .showing }).setStream camera (small .running [0])
    let answers (ws : List Word) := answer 9 .writeTakeoverSettings ws s
    answers (with' 13 2#16) = some .badValue ∧ answers (with' 7 2#16) = some .badValue ∧
    answers (with' 8 128#16) = some .badValue ∧ answers (with' 9 15#16) = some .reservedItem ∧
    answers (with' 9 16#16) = some .badValue ∧
    answer 9 .writeTakeoverSettings (takeoverWords t) (saving s) = some .busy ∧
    (takeoverOf (with' 0 49#16)).toOption.map TakeoverSettings.entryDeadline = some 50 ∧
    (takeoverOf ((with' 14 40#16).set 15 33#16)).toOption.map TakeoverSettings.readyLevel = some 32 ∧
    ((run 9 .writeTakeoverSettings (with' 15 5#16) shown).screen front).timing = .free ∧
    ((run 9 .writeTakeoverSettings (with' 15 5#16) shown).stream camera).queue = [] ∧
    (takeoverOf (takeoverWords t)).toOption = some t ∧
    answer 9 .writeTakeoverSettings (takeoverWords t) s = some .ok ∧
    ((run 9 .writeTakeoverSettings (takeoverWords t) s).stream camera).state = .closed ∧
    ((run 9 .writeTakeoverSettings (takeoverWords { t with readyLevel := 5 }) s).stream camera).state = .priming ∧
    ((run 9 .writeTakeoverSettings (takeoverWords { t with readyLevel := 5 }) s).stream camera).capacity = 16 := by
  decide +kernel

/-! ### Guide lines -/

/-- A set with its key, each track of two vertices. -/
def guideSet (key : Int) : GuideSet :=
  ⟨key, [⟨0, 10, 100⟩, ⟨key, 0, 200⟩], [⟨20, 10, 100⟩, ⟨20 + key, 0, 200⟩]⟩

/-- A valid table of two sets. -/
def guideTable : GuideTable :=
  { GuideTable.reset with
    setCount := 2, band1 := 100, band2 := 150, lineWidth := 2
    sets := (GuideTable.reset.sets.set 0 (some (guideSet (-10)))).set 1 (some (guideSet 10)) }

theorem witness_GuideValidation :
    guideTable.valid = true ∧ { guideTable with setCount := 3 }.valid = false ∧
    { guideTable with band1 := 151 }.valid = false ∧ { guideTable with vertices := 3 }.valid = false ∧
    { guideTable with sets := guideTable.sets.set 1 (some (guideSet (-10))) }.valid = false := by decide +kernel

/-- The brackets at both ends, between two keys and with a single set; the tracks between two sets. -/
theorem witness_GuideInterpolation :
    let sets := [guideSet (-10), guideSet 10]
    sets.Pairwise (fun x y => x.key < y.key) ∧
    bracketOf sets (-11) = (-10, ⟨0, 0⟩) ∧ bracketOf sets 10 = (10, ⟨0, 256⟩) ∧
    bracketOf sets 0 = (0, ⟨0, 128⟩) ∧ bracketOf [guideSet 3] 0 = (3, ⟨0, 0⟩) ∧
    (tracksOf sets ⟨0, 128⟩).1 = [⟨0, 10, 100⟩, ⟨0, 0, 200⟩] := by decide +kernel

/-- Segments at each band boundary, and a cut one. -/
theorem witness_GuideSegments :
    let seg (d : Nat) : Vertex × Vertex := (⟨0, 0, d⟩, ⟨1, 0, 1000⟩)
    (segmentsOf (guideSet 1).left).length = 1 ∧
    markOf guideTable none (seg 99) = ⟨.c0, false⟩ ∧ markOf guideTable none (seg 100) = ⟨.c1, false⟩ ∧
    markOf guideTable none (seg 150) = ⟨.c2, false⟩ ∧ markOf guideTable (some 150) (seg 150) = ⟨.c2, true⟩ ∧
    cutDistanceOf { guideTable with obstacleCut := true } ⟨999, true⟩ = some 999 ∧
    cutDistanceOf { guideTable with obstacleCut := true } ⟨1000, true⟩ = none := by decide +kernel

/-- The centres of a segment, of a single point, and the squares of width 1 and 2 at a corner. -/
theorem witness_GuideRasterization :
    let area : PaintArea := ⟨4, 4, 0, 0, 320, 240⟩
    centresOf (⟨0, 0, 0⟩, ⟨2, 1, 0⟩) = [(0, 0), (1, 1), (2, 1)] ∧ centresOf (⟨5, 6, 0⟩, ⟨5, 6, 0⟩) = [(5, 6)] ∧
    squareOf area 1 (3, 3) = [(3, 3)] ∧ squareOf area 2 (3, 3) = [(3, 3)] ∧ squareOf area 1 (4, 3) = [] := by
  decide +kernel

/-- The result record of each source of the steering. -/
theorem witness_GuideFrameResult :
    let unit (a : StaleAction) (last : Option Int) : GuideUnit :=
      { GuideUnit.reset with active := { guideTable with staleAction := a }, lastSteering := last }
    let steer (x : SignalState) : SignalRec := ⟨-5, x, .stopped, false, false⟩
    let area : PaintArea := ⟨4, 4, 0, 0, 320, 240⟩
    let result (a : StaleAction) (last : Option Int) (x : SignalState) :=
      ((unit a last).frame true 9#8 (steer x) ⟨1000, false⟩ area).result.map fun r => (r.source, r.steering)
    result .hide none .fresh = some (.fresh, some (-5)) ∧ result .straight none .stale = some (.straight, some 0) ∧
    result .hold (some 4) .stale = some (.hold, some 4) ∧ result .hold none .never = some (.straight, some 0) ∧
    result .hide none .stale = some (.hidden, none) ∧
    ((unit .hide none).frame false 9#8 (steer .fresh) ⟨1000, false⟩ area).result = none := by decide +kernel

/-- A FRONT frame start with a GUIDE item: applied, dropped for an invalid shadow copy, held by a save; a guide frame
in SHOWING, and the pixel it painted. -/
theorem witness_GuideFrameResult_item :
    let s (shadow : GuideTable) : State := { (screening 0).setGuide { ready.guide with shadow := shadow } with
      interp := { ready.interp with enabled := Tab.replicate 12 true }
      tables := { ready.tables with items := ready.tables.items.set Group.guide.index (some ⟨none, 5#8, some 6#8⟩) } }
    let applied := after (.frameStart 0) (s guideTable)
    let dropped := after (.frameStart 0) (s { guideTable with setCount := 3 })
    let held := after (.frameStart 0) (saving (s guideTable))
    let shown : State := { ((s guideTable).setStream camera (small .running [0])).setScreen 0
        { (screening 0).screen 0 with active := { (screening 0).screen 0 |>.active with guideEnable := true } } with
      takeover := { TakeoverUnit.reset with state := .showing } }
    let guided := after (.frameStart 0) shown
    applied.guide.active = guideTable ∧ applied.item .guide = none ∧
    applied.tables.outcomes.get Group.guide.index = ⟨.applied, some 5#8, some ⟨0, 1#8⟩⟩ ∧
    dropped.guide.active = GuideTable.reset ∧
    dropped.tables.outcomes.get Group.guide.index = ⟨.droppedInvalid, some 5#8, some ⟨0, 1#8⟩⟩ ∧
    dropped.interp.causes.get Cause.commandRefused.index = some (.refused 6#8 1) ∧
    (held.item .guide).isSome = true ∧ held.guide.active = GuideTable.reset ∧
    guided.guide.result.map GuideResult.source = some .hidden ∧ guided.guide.paint = [] ∧
    paintAt (({ GuideUnit.reset with active := guideTable }).frame true 9#8 ⟨0, .fresh, .stopped, false, false⟩
      ⟨1000, false⟩ ⟨4, 12, 0, 0, 320, 240⟩).paint 10 0 = some guideTable.color1 := by decide +kernel

/-- The guide writes, their refusals included. -/
theorem witness_GuideShadowWrites :
    let ws := guideGeneralWords guideTable
    let s := run 14 .writeGuideSet (16#16 :: guideSetWords (guideSet 10)) (run 13 .writeGuideSettings ws ready)
    ws.length = 19 ∧ guideGeneralOf GuideTable.reset ws = some { GuideTable.reset with
      setCount := 2, band1 := 100, band2 := 150, lineWidth := 2 } ∧
    guideGeneralOf GuideTable.reset (18#16 :: ws.drop 1) = none ∧
    answer 13 .writeGuideSettings (18#16 :: ws.drop 1) ready = some .badValue ∧
    (guideSet 10).valid = true ∧ s.guide.shadow.band2 = 150 ∧
    s.guide.shadow.sets.get 16 = some (guideSet 10) ∧ s.guide.active = ready.guide.active := by decide +kernel

/-- The refusals of WRITE GUIDE SET at their bounds. -/
theorem witness_GuideShadowWrites_refusals :
    let write (ws : List Word) := answer 14 .writeGuideSet ws ready
    let fields := guideSetWords (guideSet 10)
    write (17#16 :: fields) = some .badValue ∧ write (16#16 :: fields.set 1 1#16) = some .badValue ∧
    write (16#16 :: fields.set 1 13#16) = some .badValue ∧ write (16#16 :: fields.dropLast) = some .badLength ∧
    write (16#16 :: fields ++ [0#16]) = some .badLength ∧ write (16#16 :: fields.set 0 7801#16) = some .badValue ∧
    write (16#16 :: fields.set 0 7800#16) = some .ok ∧ write (16#16 :: fields.set 2 2048#16) = some .badValue ∧
    write (16#16 :: fields.set 12 0xF7FF#16) = some .badValue ∧ write (16#16 :: fields.set 12 0xF800#16) = some .ok ∧
    write (16#16 :: fields.set 13 1001#16) = some .badValue := by decide +kernel

/-! ### Overlays -/

/-- Image 120 of 600 pixels of 8 bits, two pages. -/
def withImage : State := run 16 .defineImage [120#16, 30#16, 20#16, 0#16, 1#16] ready

theorem witness_DefineAndFreeImage :
    let used := run 21 .writeObject
      [0#16, 0#16, 0#16, 120#16, 0#16, 0#16, 0#16, 255#16, 1#16, 0#16, 0#16, 0#16] withImage
    let define (s : State) := answer 16 .defineImage [120#16, 30#16, 20#16, 0#16, 1#16] s
    imageShapeOf 30#16 20#16 0#16 1#16 = some ⟨30, 20, .index8, 1⟩ ∧
    let lostNamed := withImage.setTakeover { TakeoverUnit.reset with
      settings := { TakeoverSettings.reset with lostImage := some 120 } }
    used.imageInUse 120 = true ∧ lostNamed.imageInUse 120 = true ∧ withImage.imageInUse 120 = false ∧
    withImage.overlay.available 120 = List.finRange 2048 ∧
    imageShapeOf 1921#16 20#16 0#16 1#16 = none ∧ imageShapeOf 1#16 1080#16 2#16 1#16 = none ∧
    answer 16 .defineImage [128#16, 30#16, 20#16, 0#16, 1#16] ready = some .badValue ∧
    answer 16 .defineImage [127#16, 0#16, 20#16, 0#16, 1#16] ready = some .badValue ∧
    define (saving ready) = some .busy ∧ define used = some .inUse ∧
    answer 16 .defineImage [0#16, 1920#16, 1080#16, 0#16, 1#16] ready = some .noRoom ∧
    (withImage.overlay.images.get 120).map ImageDesc.pages = some [0, 1] ∧
    withImage.overlay.freePages.length = 2046 ∧
    answer 18 .freeImage [128#16] ready = some .badValue ∧ answer 18 .freeImage [120#16] ready = some .notDefined ∧
    answer 18 .freeImage [120#16] (saving withImage) = some .busy ∧ answer 18 .freeImage [120#16] used = some .inUse ∧
    (run 18 .freeImage [120#16] withImage).overlay.freePages.length = 2048 := by decide +kernel

/-- Three bytes written up to the end of the image. -/
theorem witness_ImageDataWrite :
    let s := run 17 .imageData [120#16, 0#16, 597#16, 3#16, 0x0102#16, 0x0300#16] withImage
    (withImage.overlay.images.get 120).map ImageDesc.size = some 600 ∧ withImage.imageInUse 120 = false ∧
    Memory.wf storeDefault storeSize withImage.overlay.store = true ∧ lastReply s = some (.ok, []) ∧
    (List.range 4).map (fun i => s.overlay.store.read storeDefault (596 + i)) = [0#8, 1#8, 2#8, 3#8] ∧
    let named := withImage.setTakeover { TakeoverUnit.reset with
      settings := { TakeoverSettings.reset with lostImage := some 120 } }
    let data (nr cnt : Word) (x : State) := answer 17 .imageData [nr, 0#16, 597#16, cnt, 0x0102#16, 0x0300#16] x
    data 128#16 3#16 withImage = some .badValue ∧ data 120#16 5#16 withImage = some .badLength ∧
    data 120#16 3#16 (saving withImage) = some .busy ∧ data 119#16 3#16 (saving withImage) = some .notDefined ∧
    data 120#16 3#16 named = some .inUse ∧
    answer 17 .imageData [120#16, 0#16, 598#16, 3#16, 0x0102#16, 0x0300#16] withImage = some .badLength := by
  decide +kernel

theorem witness_OverlayShadowWrites :
    let es : List RGBA := [⟨1#8, 2#8, 3#8, 4#8⟩, ⟨5#8, 6#8, 7#8, 8#8⟩]
    let s := run 20 .writePalette ([3#16, 254#16, 2#16] ++ es.flatMap rgbaWords) ready
    let fixed : List Word := [2#16, 1#16, 120#16, 0xF880#16, 0#16, 15#16, 255#16, 1#16, 1#16]
    let u := run 21 .writeObject (95#16 :: fixed ++ [0#16, 0#16]) withImage
    (s.overlay.shadowPalettes.get 3).get 255 = ⟨5#8, 6#8, 7#8, 8#8⟩ ∧
    (s.overlay.shadowPalettes.get 3).get 253 = ⟨0#8, 0#8, 0#8, 0#8⟩ ∧
    (objectOf fixed none none).map ObjectFields.x = some (-1920) ∧
    (u.overlay.objects.get 95).map ObjectFields.image = some 120 ∧
    answer 21 .writeObject (95#16 :: fixed ++ [0#16, 0#16]) ready = some .notDefined ∧
    (run 22 .clearObject [95#16] u).overlay.objects.get 95 = none := by decide +kernel

/-- The refusals of WRITE PALETTE, WRITE OBJECT and CLEAR OBJECT, and an object with a clip rectangle and a blink. -/
theorem witness_OverlayShadowWrites_refusals :
    let palette (ws : List Word) := answer 20 .writePalette ws ready
    let fixed : List Word := [2#16, 1#16, 120#16, 1919#16, 1079#16, 0#16, 0#16, 0#16, 0#16]
    let parts : List Word := [1#16, 0#16, 0#16, 1919#16, 1079#16, 1#16, 1#16, 255#16]
    let object (ws : List Word) := answer 21 .writeObject ws withImage
    let full := run 21 .writeObject (95#16 :: fixed ++ parts) withImage
    palette [4#16, 0#16, 1#16, 0#16, 0#16, 0#16, 0#16] = some .badValue ∧ palette [3#16, 0#16, 0#16] = some .badValue ∧
    palette [3#16, 255#16, 2#16] = some .badValue ∧ palette [3#16, 255#16, 1#16, 0#16] = some .badLength ∧
    palette [3#16, 255#16, 1#16, 0#16, 0#16, 0#16, 256#16] = some .badValue ∧
    (full.overlay.objects.get 95).bind ObjectFields.clip = some ⟨0, 0, 1919, 1079⟩ ∧
    (full.overlay.objects.get 95).bind ObjectFields.blink = some ⟨1, 255⟩ ∧
    object (96#16 :: fixed ++ parts) = some .badValue ∧ object (95#16 :: fixed ++ parts ++ [0#16]) = some .badLength ∧
    object (95#16 :: fixed ++ [1#16, 0#16]) = some .badLength ∧ object (95#16 :: fixed ++ [0#16]) = some .badLength ∧
    object (95#16 :: fixed ++ parts.take 5) = some .badLength ∧
    object (95#16 :: fixed ++ [2#16, 0#16]) = some .badValue ∧
    object (95#16 :: fixed ++ [0#16, 2#16]) = some .badValue ∧
    object (95#16 :: fixed ++ [0#16, 1#16, 1#16]) = some .badLength ∧
    object (95#16 :: fixed ++ parts.set 3 1920#16) = some .badValue ∧
    object (95#16 :: fixed ++ parts.set 7 256#16) = some .badValue ∧
    object (95#16 :: fixed.set 3 1920#16 ++ parts) = some .badValue ∧
    object (95#16 :: fixed.set 5 16#16 ++ parts) = some .badValue ∧
    answer 22 .clearObject [96#16] ready = some .badValue := by decide +kernel

/-- A frame start of screen 1 with items of OBJECTS, asked of screens 1 and 2, and PALETTES, asked of screen 1, and one
without items, where a blink advances and another returns to 0. -/
theorem witness_OverlayShadowWrites_frame :
    let object : ObjectFields := ⟨1, .menu, 120, 0, 0, 0, 255, true, false, none, some ⟨1, 2⟩⟩
    let color : RGBA := ⟨1#8, 2#8, 3#8, 4#8⟩
    let s : State := { screening 1 with
      overlay := { withImage.overlay with
        shadowPalettes := Tab.replicate 4 (Tab.replicate 256 color)
        objects := withImage.overlay.objects.set 95 (some object)
        screens := withImage.overlay.screens.set 1 { withImage.overlay.screens.get 1 with
          list := [⟨3, object, some 1⟩, ⟨4, object, some 2⟩], raised := true } } }
    let items : State := s.setTables { s.tables with
      items := (s.tables.items.set Group.objects.index
          (some ⟨some (((FlagSet.empty 3).insert 1).insert 2), 9#8, none⟩)).set
        Group.palettes.index (some ⟨some ((FlagSet.empty 3).insert 1), 8#8, none⟩) }
    let plain := after (.frameStart 1) s
    let t := after (.frameStart 1) items
    (plain.overlay.screens.get 1).list = [⟨3, object, some 2⟩, ⟨4, object, some 0⟩] ∧
    (plain.overlay.screens.get 1).raised = false ∧
    (t.overlay.screens.get 1).list = [⟨95, object, some 0⟩] ∧
    ((t.overlay.screens.get 1).palettes.get 3).get 255 = color ∧
    t.item .objects = some ⟨some ((FlagSet.empty 3).insert 2), 9#8, none⟩ ∧ t.item .palettes = none ∧
    t.tables.outcomes.get Group.palettes.index = ⟨.applied, some 8#8, some ⟨1, 1#8⟩⟩ ∧
    (((after (.frameStart 1) (saving items)).overlay.screens.get 1).palettes.get 3).get 255 ≠ color := by
  decide +kernel

/-- A copy of a 4-bit image of 3 × 1 pixels: a candidate of its row alone, its pixels within image and clip. -/
theorem witness_SpanListTopmostEight :
    let copy (clip : Option Clip) : ActiveCopy := ⟨0, ⟨1, .menu, 3, -1, 5, 0, 128, true, false, clip, none⟩, none⟩
    let sc := ready.overlay.screens.get 1
    let u : OverlayUnit := { ready.overlay with
      images := ready.overlay.images.set 3 (some ⟨3, 1, .index4, 0, [0]⟩)
      store := [(0, 0x12#8), (1, 0x30#8)]
      screens := ready.overlay.screens.set 1 { sc with
        palettes := Tab.replicate 4 (Tab.ofFn fun i => ⟨BitVec.ofNat 8 i.val, 0#8, 0#8, 255#8⟩)
        list := [copy none] } }
    u.candidate 1 false 5 (copy none) = true ∧ u.candidate 1 false 6 (copy none) = false ∧
    u.candidate 1 false 5 (copy (some ⟨0, 6, 9, 6⟩)) = false ∧
    u.objectPixel 1 5 0 (copy none) = some ⟨2#8, 0#8, 0#8, 128#8⟩ ∧
    u.objectPixel 1 5 1 (copy none) = some ⟨3#8, 0#8, 0#8, 128#8⟩ ∧ u.objectPixel 1 5 2 (copy none) = none ∧
    u.objectPixel 1 5 1 (copy (some ⟨0, 0, 0, 9⟩)) = none ∧ (u.candidates 1 false 5).length = 1 := by decide +kernel

/-! ### Sound -/

/-- A FIFO on stream 0 with `n` frames, start level 2, marks 3 and 1. -/
def fifoWith (x : FifoState) (n : Nat) (paused : Bool) : State :=
  ready.setSound { ready.sound with
    fifos := ready.sound.fifos.set 0 ⟨x, List.replicate n ⟨7#16, 9#16⟩, 2, 3, 1, paused, 0, 0, 0⟩ }

theorem witness_OpenAndCloseSound :
    let opens (ws : List Word) (s : State) := answer 24 .openSound ws s
    let s := run 24 .openSound [3#16, 1024#16, 1024#16, 1023#16] ready
    opens [4#16, 1#16, 2#16, 0#16] ready = some .badValue ∧ opens [0#16, 3#16, 2#16, 0#16] ready = some .badValue ∧
    opens [0#16, 1#16, 2#16, 2#16] ready = some .badValue ∧ opens [3#16, 1#16, 2#16, 0#16] s = some .inUse ∧
    (s.fifo 3).state = .priming ∧ (s.fifo 3).lowMark = 1023 ∧
    answer 25 .closeSound [4#16] ready = some .badValue ∧ answer 25 .closeSound [3#16] ready = some .ok ∧
    ((run 25 .closeSound [3#16] s).fifo 3).state = .closed := by decide +kernel

/-- A CLOSED stream, the start level, the high mark, and a FIFO with one place left. -/
theorem witness_SoundPacketIntake :
    let one := soundFrame 0 [1#16, 2#16]
    let got (s : State) := after (.soundPacket one) s
    (soundOf one).isSome = true ∧
    ((got (fifoWith .closed 0 false)).fifo 0).strays = 1 ∧
    ((got (fifoWith .priming 0 false)).fifo 0).state = .priming ∧
    ((got (fifoWith .priming 1 false)).fifo 0).state = .running ∧
    ((got (fifoWith .running 2 false)).fifo 0).paused = true ∧
    (got (fifoWith .running 2 false)).link.back = [.flowMarker 0 .pause] ∧
    (got (fifoWith .running 2 true)).link.back = [] ∧
    ((got (fifoWith .running 1024 true)).fifo 0).overruns = 1 := by decide +kernel

/-- Two frames for one place, on a FIFO that is not paused: the overrun, SOUND_FAULT and PAUSE in one event, and without
PAUSE when the high mark is not reached or the FIFO is paused; the layout of a SOUND frame. -/
theorem witness_SoundPacketIntake_overrun :
    let two := soundFrame 0 [1#16, 2#16, 3#16, 4#16]
    let s (paused : Bool) : State := { fifoWith .running 1023 paused with
      interp := { ready.interp with enabled := Tab.replicate 12 true } }
    let t := after (.soundPacket two) (s false)
    (soundOf two).map SoundPacket.frames = some [⟨1#16, 2#16⟩, ⟨3#16, 4#16⟩] ∧
    (t.fifo 0).overruns = 1 ∧ (t.fifo 0).frames.length = 1024 ∧ (t.fifo 0).paused = true ∧
    t.link.back = [.flowMarker 0 .pause] ∧
    t.interp.causes.get Cause.soundFault.index = some (.members ((FlagSet.empty 16).insert 0)) ∧
    (after (.soundPacket two) (s true)).link.back = [] := by decide +kernel

/-- A sample instant: a saturated output raises CLIP once, a head frame is taken, an empty FIFO primes. -/
theorem witness_SampleInstantOutput :
    let loud := { fifoWith .running 1 true with
      interp := { ready.interp with enabled := Tab.replicate 12 true } }
    let s := loud.setSound { loud.sound with
      fifos := loud.sound.fifos.set 0 ⟨.running, [⟨32767#16, 32767#16⟩], 2, 3, 1, true, 0, 0, 0⟩
      current := Tab.replicate 10 (Tab.replicate 8 32768) }
    let t := after .sampleInstant s
    t.ports.tdm.get 0 = 32767#16 ∧ t.sound.clip.get 7 = true ∧
    (t.interp.causes.get Cause.clip.index).isSome = true ∧ (t.fifo 0).frames = [] ∧ (t.fifo 0).state = .running ∧
    (s.fifo 0).paused = true ∧ (t.fifo 0).paused = false ∧ t.link.back = [.flowMarker 0 .resume] ∧
    (after .sampleInstant (fifoWith .running 3 true)).link.back = [] ∧
    (after .sampleInstant (fifoWith .running 2 true)).link.back = [.flowMarker 0 .resume] ∧
    ((after .sampleInstant t).fifo 0).state = .priming ∧ ((after .sampleInstant t).fifo 0).underruns = 1 ∧
    (after .sampleInstant ready).ports.tdm.get 0 = 0#16 := by decide +kernel

/-- The outputs that saturate anew join the members of CLIP; an output whose flag is set does not. -/
theorem witness_SampleInstantOutput_members :
    let row : Tab Nat 8 := ((Tab.replicate 8 0).set 2 32768).set 7 32768
    let s := { ready with
      interp := { ready.interp with
        enabled := Tab.replicate 12 true
        causes := ready.interp.causes.set Cause.clip.index (some (.members ((FlagSet.empty 16).insert 0))) }
      sound := { ready.sound with
        fifos := ready.sound.fifos.set 0 ⟨.running, [⟨32767#16, 32767#16⟩], 2, 3, 1, false, 0, 0, 0⟩
        clip := (FlagSet.empty 8).insert 7, current := Tab.replicate 10 row } }
    (after .sampleInstant s).interp.causes.get Cause.clip.index =
      some (.members (((FlagSet.empty 16).insert 0).insert 2)) ∧
    (after .sampleInstant s).sound.clip = ((FlagSet.empty 8).insert 2).insert 7 := by decide +kernel

/-- A block boundary that applies a MIX item; duck and reverse attenuation on outputs 0 and 6. -/
theorem witness_BlockBoundaryGains :
    let mix : MixGroup := { MixGroup.reset with
      gains := Tab.replicate 10 (Tab.replicate 8 32768), rampStep := 100 }
    let s := ((ready.setSound { ready.sound with shadow := mix }).setTables
      { ready.tables with items := ready.tables.items.set Group.mix.index (some ⟨none, 5#8, none⟩) }).setTakeover
        { TakeoverUnit.reset with state := .showing }
    let t := after .audioBlockBoundary s
    (s.item .mix).isSome = true ∧ s.held .mix = false ∧ t.sound.active = mix ∧
    (t.sound.targets.get 0).get 0 = 8192 ∧ (t.sound.targets.get 0).get 6 = 32768 ∧
    (t.sound.targets.get 9).get 0 = 32768 ∧ (t.sound.current.get 0).get 0 = 100 ∧
    t.item .mix = none ∧ t.tables.outcomes.get Group.mix.index = ⟨.applied, some 5#8, none⟩ := by decide +kernel

theorem witness_MixShadowWrites :
    let s := run 26 .writeMix [9#16, 6#16, 2#16, 32768#16, 32769#16] ready
    lastReply s = some (.ok, [1#16]) ∧ (s.sound.shadow.gains.get 9).get 7 = 32768 ∧
    (s.sound.shadow.gains.get 9).get 5 = 0 ∧
    (run 27 .writeDuck [1#16, 32768#16, 7#16] ready).sound.shadow.rampStep = 1 ∧
    answer 27 .writeDuck [0#16, 32768#16, 7#16] ready = some .badValue ∧
    answer 27 .writeDuck [32769#16, 0#16, 7#16] ready = some .badValue ∧
    answer 27 .writeDuck [32768#16, 32769#16, 7#16] ready = some .badValue ∧
    answer 27 .writeDuck [32768#16, 0#16, 8#16] ready = some .badValue := by decide +kernel

/-- The refusals of WRITE MIX at their bounds, and the readings of a block boundary. -/
theorem witness_MixShadowWrites_refusals :
    let mix (ws : List Word) := answer 26 .writeMix ws ready
    let voice : Context := ⟨3, 0, 2, 0, 1, 0#32, 1⟩
    let s := (ready.setChimes { ready.chimes with voices := ready.chimes.voices.set 1 (some voice) }).setTakeover
      { TakeoverUnit.reset with state := .linger }
    let t := (after .audioBlockBoundary s).sound
    mix [10#16, 0#16, 1#16, 0#16] = some .badValue ∧ mix [9#16, 0#16, 0#16] = some .badValue ∧
    mix [9#16, 7#16, 2#16, 0#16, 0#16] = some .badValue ∧ mix [9#16, 7#16, 1#16] = some .badLength ∧
    mix [9#16, 7#16, 1#16, 0#16, 0#16] = some .badLength ∧
    (t.sawVoiceA, t.sawVoiceB, t.sawNormal) = (false, true, false) ∧
    (after .audioBlockBoundary ready).sound.sawNormal = true := by decide +kernel

/-! ### Chimes -/

/-- A pattern of one step of 2 ms, then a gap of 1 ms, looping once. -/
def pattern (priority : Nat) (restart : Bool) : Pattern :=
  ⟨[⟨440, .sine, 255, 2, false⟩, ⟨0, .square, 0, 1, true⟩], 0, 1, 1, priority, restart⟩

/-- Patterns 0 to 3 and 15 written, of priorities 0 to 3 and 5. -/
def chiming : State :=
  ready.setChimes { ready.chimes with
    patterns := Tab.ofFn fun p => if p.val ≤ 3 then some (pattern p.val false)
      else if p.val = 15 then some (pattern 5 false) else none }

/-- The entry chime behind an ENGAGED edge: NONE, an EMPTY pattern and a WRITTEN one from NORMAL, the same in LINGER; and
the park tone that the edge makes eligible, requested first. -/
theorem witness_ReverseLineFilter_chime :
    let s (x : TakeoverState) (chime : Option (Fin 16)) (near : Nearest) :=
      (chiming.setTakeover { TakeoverUnit.reset with
        started := true, state := x, settings := { TakeoverSettings.reset with entryChime := chime } }).setSignals
          { ready.signals with filter := ⟨.released, 3, .running 0, .released⟩, nearest := near }
    let tones (s : State) := s.setChimes { s.chimes with
      rates := ⟨[⟨50, 10⟩], 0⟩, patterns := s.chimes.patterns.set 15 (s.chimes.patterns.get 3) }
    let edge (s : State) := (after (.reverseLineSample .high) s).chimes.voices.toList.map (Option.map Context.pattern)
    let stale : Nearest := ⟨1000, false⟩
    edge (s .normal none stale) = [none, none] ∧ edge (s .normal (some 4) stale) = [none, none] ∧
    edge (s .normal (some 3) stale) = [some 3, none] ∧ edge (s .linger (some 3) stale) = [none, none] ∧
    edge (tones (s .normal (some 3) ⟨49, true⟩)) = [some 15, some 3] ∧
    edge (tones (s .normal (some 3) ⟨50, true⟩)) = [some 3, none] ∧
    edge (tones (s .showing (some 3) ⟨49, true⟩)) = [some 15, none] ∧
    edge (s .normal (some 3) ⟨49, true⟩) = [some 3, none] := by decide +kernel

/-- A park tone that an edge finds eligible and no longer near: cut on its voice, which takes the stack top, and cut in
the queue alone. -/
theorem witness_ReverseLineFilter_cut :
    let c (q : Fin 16) : Context := ⟨q, 0, 1, 0, 0, 0#32, 1⟩
    let edge (voice : Option Context) (queue : List Request) (stack : List Context) :=
      (after (.reverseLineSample .high) ((chiming.setTakeover { TakeoverUnit.reset with
        started := true, state := .showing }).setSignals
          { ready.signals with filter := ⟨.released, 3, .running 0, .released⟩ } |>.setChimes { chiming.chimes with
            voices := chiming.chimes.voices.set 0 voice, queue := queue, stack := stack, eligible := true })).chimes
    (edge (some (c 15)) [] [c 2]).voices.get 0 = some (c 2) ∧ (edge (some (c 15)) [] [c 2]).stack = [] ∧
    (edge (some (c 1)) [⟨15, 3, 1⟩] [c 15, c 2]).queue = [] ∧
    (edge (some (c 1)) [⟨15, 3, 1⟩] [c 15, c 2]).stack = [c 2] ∧
    (edge (some (c 1)) [⟨15, 3, 1⟩] []).eligible = false := by decide +kernel

/-- The tone of a step, and the gap of the park tone at the boundaries of its table. -/
theorem witness_ToneAndParkGap :
    let rates : ParkRates := ⟨[⟨50, 10⟩, ⟨100, 20⟩], 5⟩
    let gap : ChimeStep := ⟨0, .square, 0, 7, true⟩
    (phaseIncrement 1000) = 89478485#32 ∧ toneSample ⟨440, .square, 255, 2, false⟩ 0#32 = 32767 ∧
    toneSample ⟨440, .sine, 255, 2, false⟩ 0x40000000#32 = 32767 ∧ toneSample gap 0#32 = 0 ∧
    stepDuration rates 4 parkTone gap = 0 ∧ stepDuration rates 5 parkTone gap = 10 ∧
    stepDuration rates 49 parkTone gap = 10 ∧ stepDuration rates 50 parkTone gap = 20 ∧
    stepDuration rates 50 3 gap = 7 := by decide +kernel

/-- The last sample of a millisecond: within a step, at the loop end with repeats left, at the last step without, and
past a step of duration 0; a voice that is complete takes the stack top at equal priority, and else the queue head. -/
theorem witness_ToneAndParkGap_steps :
    let pat := pattern 2 false
    let rates : ParkRates := ⟨[], 0⟩
    let c (step ms repeats : Nat) : Context := ⟨2, step, ms, 47, repeats, 0#32, 1⟩
    let at' (x : Context) := x.advance rates 1000 pat (pat.steps.getD x.step ⟨0, .sine, 0, 1, true⟩)
    let zero : Pattern := ⟨[⟨440, .sine, 255, 2, false⟩, ⟨0, .sine, 0, 3, true⟩], 0, 1, 0, 2, false⟩
    let u (queue : List Request) (stack : List Context) : ChimeUnit := { chiming.chimes with
      voices := chiming.chimes.voices.set 0 (some (c 1 0 0)), queue := queue, stack := stack }
    at' (c 0 1 1) = some { c 0 0 1 with sampleInMs := 0, phase := phaseIncrement 440 } ∧
    at' (c 0 0 1) = some { c 1 0 1 with sampleInMs := 0 } ∧
    at' (c 1 0 1) = some { c 0 1 0 with sampleInMs := 0 } ∧
    at' (c 1 0 255) = some { c 0 1 255 with sampleInMs := 0 } ∧ at' (c 1 0 0) = none ∧
    ({ c 0 0 1 with pattern := 15 } : Context).advance ⟨[], 1000⟩ 999 zero ⟨440, .sine, 255, 2, false⟩ =
      some { c 0 1 0 with pattern := 15, sampleInMs := 0 } ∧
    startContext rates 1000 pat 2 7 3 = some ⟨2, 0, 1, 0, 7, 0#32, 3⟩ ∧
    ((u [⟨1, 1, 1⟩] [{ c 0 0 0 with pattern := 1 }]).advance 1000 0).voices.get 0 =
      some { c 0 0 0 with pattern := 1 } ∧
    (((u [⟨3, 3, 1⟩] [{ c 0 0 0 with pattern := 1 }]).advance 1000 0).voices.get 0).map Context.pattern = some 3 ∧
    ((u [] []).advance 1000 0).voices.get 0 = none := by decide +kernel

/-- The sample of a free voice, and of one in its step of 440 Hz at the last phase below half a turn and behind it. -/
theorem witness_ToneAndParkGap_sample :
    let tone : Pattern := ⟨[⟨440, .square, 255, 2, false⟩], 0, 0, 0, 2, false⟩
    let u (phase : BitVec 32) : ChimeUnit := { chiming.chimes with
      patterns := chiming.chimes.patterns.set 2 (some tone)
      voices := chiming.chimes.voices.set 1 (some ⟨2, 0, 1, 0, 0, phase, 1⟩) }
    (u 0#32).sample 0 = 0 ∧ (u 0x7FFFFFFF#32).sample 1 = 32767 ∧ (u 0x80000000#32).sample 1 = -32767 := by
  decide +kernel

/-- PLAY CHIME and STOP CHIME in each case. -/
theorem witness_PlayAndStopChime :
    let play (n : Word) (s : State) := run 30 .playChime [n] s
    let two := play 2#16 (play 3#16 chiming)
    let three := play 0#16 two
    answer 30 .playChime [16#16] chiming = some .badValue ∧ answer 30 .playChime [15#16] chiming = some .reservedItem ∧
    answer 30 .playChime [4#16] chiming = some .notDefined ∧ answer 30 .playChime [3#16] chiming = some .started ∧
    answer 30 .playChime [3#16] two = some .merged ∧ answer 30 .playChime [0#16] two = some .queued ∧
    three.chimes.queue = [⟨0, 0, 1⟩] ∧ three.chimes.starts = 2 ∧
    answer 31 .stopChime [16#16, 0#16] three = some .badValue ∧ answer 31 .stopChime [0#16, 2#16] three = some .badValue ∧
    answer 31 .stopChime [15#16, 1#16] three = some .reservedItem ∧
    answer 31 .stopChime [1#16, 1#16] three = some .notActive ∧
    ((run 31 .stopChime [3#16, 0#16] three).chimes.voices.get 0).map Context.repeats = some 0 ∧
    (run 31 .stopChime [0#16, 1#16] three).chimes.queue = [] := by decide +kernel

/-- PLAY CHIME with both voices playing: a preemption, one whose stack is full, a full queue; a merge that restarts; and
CUT of a playing pattern, whose voice takes the stack top. -/
theorem witness_PlayAndStopChime_voices :
    let c (q : Fin 16) (order : Nat) : Context := ⟨q, 1, 0, 0, 0, 0#32, order⟩
    let s (a b : Context) (queue : List Request) (stack : List Context) : State := ready.setChimes
      { chiming.chimes with
        patterns := Tab.ofFn fun q => some (pattern (q.val % 8) (q.val = 9))
        voices := (chiming.chimes.voices.set 0 (some a)).set 1 (some b)
        queue := queue, stack := stack, starts := 2 }
    let play (q : Word) (x : State) := run 30 .playChime [q] x
    let free := s (c 1 1) (c 2 2) [] []
    let deep := s (c 1 1) (c 2 2) [] [c 3 0, c 4 0, c 5 0, c 6 0]
    let long (n : Nat) := s (c 6 1) (c 7 2) (List.replicate n ⟨3, 3, 1⟩) []
    answer 30 .playChime [10#16] free = some .started ∧ (play 10#16 free).chimes.stack = [c 1 1] ∧
    ((play 10#16 free).chimes.voices.get 0).map Context.pattern = some 10 ∧
    (play 3#16 (s (c 1 2) (c 2 1) [] [])).chimes.stack = [c 1 2] ∧
    (play 7#16 deep).chimes.stack = [c 4 0, c 5 0, c 6 0, c 1 1] ∧
    answer 30 .playChime [8#16] (long 7) = some .queued ∧ answer 30 .playChime [8#16] (long 8) = some .dropped ∧
    answer 30 .playChime [4#16] (long 8) = some .queued ∧ (play 4#16 (long 8)).chimes.queue.length = 8 ∧
    ((play 4#16 (long 8)).chimes.queue.head?.map Request.pattern) = some 4 ∧
    answer 30 .playChime [9#16] (s (c 9 1) (c 2 2) [] []) = some .merged ∧
    (play 9#16 (s (c 9 1) (c 2 2) [] [])).chimes.voices.get 0 = some ⟨9, 0, 1, 0, 1, 0#32, 1⟩ ∧
    (run 31 .stopChime [1#16, 1#16] deep).chimes.voices.get 0 = some (c 6 0) ∧
    (run 31 .stopChime [1#16, 1#16] deep).chimes.stack = [c 3 0, c 4 0, c 5 0] := by decide +kernel

/-- A pattern and a park rate table written; the park tone eligible with REVERSE claimed. -/
theorem witness_ChimeTableWrites :
    let rates : ParkRates := ⟨[⟨50, 10⟩, ⟨100, 20⟩], 5⟩
    let s := (chiming.setTakeover { TakeoverUnit.reset with reverse := true }).setSignals
      { ready.signals with nearest := ⟨99, true⟩ }
    (run 29 .writePattern (14#16 :: patternWords (pattern 7 true)) ready).chimes.patterns.get 14 =
      some (pattern 7 true) ∧
    (pattern 7 true).regionPlays = true ∧
    answer 29 .writePattern (15#16 :: patternWords (pattern 7 true)) ready = some .ok ∧
    (run 33 .writeParkRates (parkWords rates) s).chimes.rates = rates ∧
    (run 33 .writeParkRates (parkWords rates) s).chimes.eligible = true ∧
    (run 33 .writeParkRates (parkWords rates) s).chimes.present 15 = true ∧
    let tone := run 33 .writeParkRates (parkWords rates) s
    (tone.chimes.voices.get 0).map Context.pattern = some 15 ∧
    (run 33 .writeParkRates [0#16, 0#16] tone).chimes.present 15 = false ∧
    answer 33 .writeParkRates (parkWords rates) (saving s) = some .busy ∧
    answer 29 .writePattern (15#16 :: patternWords (pattern 7 true)) (saving ready) = some .busy ∧
    (run 33 .writeParkRates [0#16, 1000#16] ready).chimes.eligible = false := by decide +kernel

/-- WRITE PATTERN: two frequencies clamped, and each refusal; WRITE PARK RATES: each refusal. -/
theorem witness_ChimeTableWrites_refusals :
    let write (nr : Word) (content : List Word) := run 29 .writePattern (nr :: content) chiming
    let result (nr : Word) (content : List Word) := (lastReply (write nr content)).map Prod.fst
    let step (f : Word) (gap : Word) : List Word := [f, 1#16, 255#16, 2000#16, gap]
    let two := 2#16 :: step 99#16 0#16 ++ step 8001#16 1#16
    let tail : List Word := [0#16, 1#16, 255#16, 7#16, 1#16]
    let playing := chiming.setChimes { chiming.chimes with
      voices := chiming.chimes.voices.set 0 (some ⟨3, 0, 2, 0, 1, 0#32, 1⟩) }
    let rates (ws : List Word) := answer 33 .writeParkRates ws ready
    lastReply (write 14#16 (two ++ tail)) = some (.ok, [2#16]) ∧
    ((write 14#16 (two ++ tail)).chimes.patterns.get 14).map (fun x => x.steps.map ChimeStep.frequency) =
      some [100, 8000] ∧
    result 16#16 (two ++ tail) = some .badValue ∧ result 14#16 (two ++ tail.dropLast) = some .badLength ∧
    result 14#16 (0#16 :: tail) = some .badLength ∧ result 14#16 (33#16 :: tail) = some .badLength ∧
    result 14#16 (two ++ tail.set 1 2#16) = some .badValue ∧ result 14#16 (two ++ tail.set 3 8#16) = some .badValue ∧
    result 15#16 (two ++ tail.set 0 1#16) = some .badValue ∧ result 15#16 (two ++ tail) = some .ok ∧
    answer 29 .writePattern (3#16 :: two ++ tail) playing = some .inUse ∧
    rates [9#16, 0#16] = some .badLength ∧ rates [1#16, 5#16, 1#16] = some .badLength ∧
    rates [1#16, 0#16, 1#16, 0#16] = some .badValue ∧ rates [2#16, 5#16, 1#16, 5#16, 1#16, 0#16] = some .badValue ∧
    rates [0#16, 1001#16] = some .badValue := by decide +kernel

/-- The park tone requested with voice A playing, with both voices at lower and at higher priority, and with the queue
full; and without a pattern. -/
theorem witness_ChimeTableWrites_tone :
    let c (q : Fin 16) (order : Nat) : Context := ⟨q, 1, 0, 0, 0, 0#32, order⟩
    let s (a b : Option Context) (queue : List Request) (priority : Nat) : State := { ready with
      takeover := { TakeoverUnit.reset with reverse := true }
      signals := { ready.signals with nearest := ⟨9, true⟩ }
      chimes := { ready.chimes with
        patterns := Tab.ofFn fun q => some (pattern (if q.val = 15 then priority else 3) false)
        voices := (ready.chimes.voices.set 0 a).set 1 b, queue := queue } }
    let write (x : State) := run 33 .writeParkRates (parkWords ⟨[⟨10, 1⟩], 0⟩) x
    let tone (x : State) := ((write x).chimes.voices.get 1).map Context.pattern
    let enabled (x : State) : State := { x with interp := { x.interp with enabled := Tab.replicate 12 true } }
    let full := s (some (c 1 1)) (some (c 2 2)) (List.replicate 8 ⟨3, 3, 1⟩) 3
    tone (s (some (c 1 1)) none [] 3) = some 15 ∧ tone (s (some (c 1 2)) (some (c 2 1)) [] 4) = some 2 ∧
    ((write (s (some (c 1 2)) (some (c 2 1)) [] 4)).chimes.voices.get 0).map Context.pattern = some 15 ∧
    (write (s (some (c 1 2)) (some (c 2 1)) [] 4)).chimes.stack = [c 1 2] ∧
    (write (s (some (c 1 1)) (some (c 2 2)) [] 3)).chimes.queue = [⟨15, 3, 1⟩] ∧
    (write (enabled full)).interp.causes.get Cause.chimeDropped.index =
      some (.members ((FlagSet.empty 16).insert 15)) ∧
    (write full).chimes.eligible = true ∧
    (let empty := s none none [] 3
     let bare := empty.setChimes { empty.chimes with patterns := empty.chimes.patterns.set 15 none }
     (write bare).chimes.eligible = true ∧ (write bare).chimes.voices = empty.chimes.voices) := by decide +kernel

/-! ### Reports, commits and attention -/

/-- A read of each reporting command at a boundary of its numbers. -/
theorem witness_StatusReports :
    let s := ready.setStream camera { small .stalled [] with stalls := 9 }
    answer 5 .readScreen [2#16, 1#16] ready = some .ok ∧ answer 15 .readGuideResult [] ready = some .ok ∧
    answer 23 .readObject [95#16, 0#16] ready = some .ok ∧ answer 23 .readObject [95#16, 1#16, 2#16] ready = some .ok ∧
    answer 32 .chimeStatus [15#16] ready = some .ok ∧ answer 32 .chimeStatus [0xFFFF#16] ready = some .ok ∧
    answer 36 .readTable [0#16, 1#16, 0#16] ready = some .ok ∧
    (lastReply (run 36 .readTable [0#16, 1#16, 17#16] (ready.setGuide { ready.guide with
      shadow := { guideTable with sets := guideTable.sets.set 16 (some (guideSet 1)) } }))) =
        some (.ok, guideSetWords (guideSet 1)) ∧
    answer 36 .readTable [1#16, 1#16, 3#16, 0#16, 256#16, 0#16] ready = some .ok ∧
    answer 36 .readTable [1#16, 1#16, 3#16, 1#16, 256#16, 0#16] ready = some .badValue ∧
    (lastReply (run 40 .partStatus [] ready)).map (fun x => x.2.take 3) = some [0x0212#16, 1#16, 1#16] ∧
    answer 12 .takeoverStatus [] ready = some .ok ∧
    ((run 3 .streamStatus [7#16, 0#16] s).stream camera).stalls = 9 ∧
    ((run 3 .streamStatus [7#16, 1#16] s).stream camera).stalls = 0 ∧
    answer 8 .readSignals [1#16] ready = some .ok ∧ answer 19 .imageInfo [127#16, 1#16] ready = some .ok ∧
    answer 28 .audioStatus [1#16, 1#16] ready = some .ok ∧ answer 35 .commitStatus [1#16] ready = some .ok := by
  decide +kernel

/-- READ TABLE of an ACTIVE guide set, of one never written, and of a screen's palettes. -/
theorem witness_StatusReports_active :
    let s := ready.setGuide { ready.guide with active := guideTable }
    let screens := s.overlay.screens.set 2 { s.overlay.screens.get 2 with
      palettes := Tab.replicate 4 (Tab.replicate 256 ⟨1#8, 2#8, 3#8, 4#8⟩) }
    lastReply (run 36 .readTable [0#16, 0#16, 2#16] s) = some (.ok, guideSetWords (guideSet 10)) ∧
    lastReply (run 36 .readTable [0#16, 0#16, 0#16] s) = some (.ok, guideGeneralWords guideTable) ∧
    (run 36 .readTable [0#16, 0#16, 17#16] s).freeCount = 1 ∧
    lastReply (run 36 .readTable [1#16, 0#16, 3#16, 255#16, 1#16, 1#16, 2#16]
      (s.setOverlay { s.overlay with screens := screens })) = some (.ok, [1#16, 2#16, 3#16, 4#16]) := by decide +kernel

/-- The refusals of the reporting commands at their bounds. -/
theorem witness_StatusReports_refusals :
    let table (ws : List Word) := answer 36 .readTable ws ready
    [answer 8 .readSignals [2#16] ready, answer 35 .commitStatus [2#16] ready, answer 32 .chimeStatus [16#16] ready,
      answer 3 .streamStatus [8#16, 0#16] ready, answer 3 .streamStatus [7#16, 2#16] ready,
      answer 5 .readScreen [3#16, 0#16] ready, answer 5 .readScreen [2#16, 2#16] ready,
      answer 19 .imageInfo [128#16, 0#16] ready, answer 28 .audioStatus [2#16, 0#16] ready,
      answer 23 .readObject [96#16, 0#16] ready, answer 23 .readObject [95#16, 2#16] ready,
      answer 23 .readObject [95#16, 1#16, 3#16] ready, table [2#16], table [0#16, 2#16, 0#16],
      table [0#16, 1#16, 18#16], table [1#16, 1#16, 3#16, 0#16, 1#16, 2#16], table [1#16, 1#16, 4#16, 0#16, 1#16, 0#16],
      table [1#16, 1#16, 3#16, 0#16, 0#16, 0#16], table [1#16, 0#16, 3#16, 0#16, 1#16, 0#16],
      table [1#16, 0#16, 3#16, 0#16, 1#16, 1#16, 3#16]].all (fun r => decide (r = some .badValue)) = true ∧
    [answer 23 .readObject [95#16, 1#16] ready, answer 23 .readObject [95#16, 0#16, 0#16] ready,
      table [1#16, 1#16, 3#16, 0#16, 1#16], table [1#16, 1#16, 3#16, 0#16, 1#16, 1#16],
      table [1#16, 1#16, 3#16, 0#16, 1#16, 0#16, 0#16]].all (fun r => decide (r = some .badLength)) = true := by
  decide +kernel

/-- COMMIT of nothing, of OBJECTS without a screen, of all groups with an invalid GUIDE, and of a pending item. -/
theorem witness_Commit :
    let bad := ready.setGuide { ready.guide with shadow := { GuideTable.reset with setCount := 1 } }
    let s := run 34 .commit [0x48#16, 5#16] ready
    answer 34 .commit [0#16, 1#16] ready = some .badValue ∧ answer 34 .commit [128#16, 1#16] ready = some .badValue ∧
    answer 34 .commit [8#16, 0#16] ready = some .badValue ∧ answer 34 .commit [8#16, 8#16] ready = some .badValue ∧
    answer 34 .commit [1#16, 8#16] ready = some .ok ∧
    lastReply s = some (.ok, [0#16, 0#16, 0#16, 0#16]) ∧
    s.item .objects = some ⟨some ((((FlagSet.empty 3).insert 0).insert 2)), 7#8, some 7#8⟩ ∧
    (run 34 .commit [8#16, 2#16] s).item .objects = some ⟨some (Tab.replicate 3 true), 7#8, some 7#8⟩ ∧
    lastReply (run 34 .commit [127#16, 7#16] (saving bad)) = some (.invalidTable,
      [0#16, 1#16, 0#16, 0#16, 0#16, 0#16, 0#16, 0#16, 0#16, 1#16, 2#16, 1#16, 0#16, 0#16]) ∧
    (run 34 .commit [127#16, 7#16] bad).item .guide = none ∧
    ((run 34 .commit [127#16, 7#16] bad).item .mix).isSome = true := by decide +kernel

/-- Two causes pending: the higher one is answered first; the enable set that leaves both out clears them. -/
theorem witness_AttentionCommands :
    let s := ready.setInterp { ready.interp with
      enabled := Tab.replicate 12 true
      causes := (ready.interp.causes.set 5 (some (.refused 3#8 2))).set 11 (some (.count 1)) }
    lastReply (run 38 .queryAttention [] ready) = some (.ok, [0xFFFF#16, 0#16]) ∧
    lastReply (run 38 .queryAttention [] s) = some (.ok, [5#16, 3#16, 2#16, 2048#16]) ∧
    s.attentionLine = true ∧ (run 38 .queryAttention [] s).attentionLine = true ∧
    answer 39 .writeAttentionEnables [4096#16] s = some .badValue ∧
    lastReply (run 39 .writeAttentionEnables [4095#16] s) = some (.ok, [2080#16]) ∧
    (run 39 .writeAttentionEnables [31#16] s).attentionLine = false := by decide +kernel

/-- A cause raised without being enabled, and the first and the next raising of each kind of detail. -/
theorem witness_AttentionCommands_raise :
    let s := ready.setInterp { ready.interp with enabled := Tab.replicate 12 true }
    let none' := ready.setInterp { ready.interp with enabled := Tab.replicate 12 false }
    let held (c : Cause) (d : Detail) := s.setInterp { s.interp with causes := s.interp.causes.set c.index (some d) }
    let got (t : State) (c : Cause) (r : Raising) := (t.raise c r).interp.causes.get c.index
    let one : FlagSet 16 := (FlagSet.empty 16).insert 1
    none'.raise .clip (.member 1) = none' ∧ got s .cameraLost .occurrence = some (.count 1) ∧
    got (held .cameraLost (.count 65535)) .cameraLost .occurrence = some (.count 65535) ∧
    got s .clip (.member 1) = some (.members one) ∧
    got (held .clip (.members one)) .clip (.member 0) = some (.members (one.insert 0)) ∧
    got s .commandRefused (.tag 9#8) = some (.refused 9#8 1) ∧
    got (held .commandRefused (.refused 9#8 1)) .commandRefused (.tag 8#8) = some (.refused 8#8 2) := by decide +kernel

/-! ### The settings flash -/

/-- A save from READY: its checks, and its first steps. -/
theorem witness_SaveSettingsSteps :
    let started := run 37 .saveSettings [] ready
    let erased := after (.flashWriteComplete .matched) started
    let last := ready.setLoader { ready.loader with
      saveStep := .record (.single .screenRearRight) [1#8, 2#8], saveAddr := 524286 }
    let enabled := last.setInterp { last.interp with enabled := Tab.replicate 12 true }
    Memory.wf storeDefault storeSize ready.overlay.store = true ∧ Memory.wf flashDefault flashSize ready.flash = true ∧
    lastReply started = some (.started, []) ∧ started.loader.saveTodo.length = 10 ∧
    answer 37 .saveSettings [] (saving ready) = some .busy ∧
    erased.loader.saveStep = .header (headerBytes 10) ∧
    (after (.flashWriteComplete .matched) erased).loader.saveAddr = 8 ∧
    headerCount ((after (.flashWriteComplete .matched) erased).flash.readBytes flashDefault 0 8) = some 10 ∧
    (after (.flashWriteComplete .matched) last).flash = [(524286, 1#8), (524287, 2#8)] ∧
    (after (.flashWriteComplete .matched) enabled).interp.causes.get Cause.saveDone.index =
      some (.members ((FlagSet.empty 16).insert 0)) ∧
    (after (.flashWriteComplete .matched) ready) = ready := by decide +kernel

/-- A save whose MIX record is the step under way, its read-back failing. -/
theorem witness_SaveSettingsSteps_cut :
    let s := ready
    let content := s.recordContent (.single .mix)
    let cut := after (.flashWriteComplete .readBackDiffers) (s.setLoader { s.loader with
      saveStep := .record (.single .mix) (recordFrame 9 content), saveAddr := 8 })
    8 + 9 + content.length ≤ 524288 ∧ cut.freeCount = 1 ∧ cut.loader.saveStep = .none ∧
    (after (.flashWriteComplete .reportedFailure) (saving s)).freeCount = 1 := by decide +kernel

/-- 513 pages held by the images 120 to 127 refuse a save. -/
theorem test_save_no_room :
    answer 37 .saveSettings [] (run 16 .defineImage [120#16, 1026#16, 512#16, 1#16, 0#16] ready) = some .noRoom := by
  decide +kernel

/-- A part in LOADING whose flash begins with the given bytes. -/
def loadingFrom (bytes : List Byte) (position : LoadPosition) (left addr : Nat) : State :=
  { ready with
    interp := Interpreter.reset
    flash := Memory.writeBytes flashDefault [] 0 bytes
    loader := { Loader.reset with position := position, recordsLeft := left, readAddr := addr } }

/-- A bad header, a flash that does not answer, the largest good count, a record past the end, a record of an
unknown kind, a rejected TAKEOVER record and an accepted GUIDE record. -/
theorem witness_SettingsLoading :
    let header (n : Byte) := loadingFrom [0x46#8, 0x56#8, 0x32#8, 0x31#8, 0#8, 1#8, 0#8, n] .header 0 0
    let record (bytes : List Byte) (place : Nat) := loadingFrom bytes (.expecting place) 2 0
    let bad := after .flashRecordLoad (record (1#8 :: List.replicate 8 0#8) 0)
    let table := { GuideTable.reset with band2 := 9 }
    let guide := after .flashRecordLoad (record (recordFrame 4 (bytesOfWords (guideContent table))) 3)
    (after (.flashHeaderLoad true) (header 19#8)).interp.startUp = .ready ∧
    (after (.flashHeaderLoad true) (header 19#8)).loader.singles.get 0 = .rejected ∧
    (after (.flashHeaderLoad false) (header 18#8)).takeover.started = true ∧
    (after (.flashHeaderLoad true) (header 18#8)).loader =
      { Loader.reset with position := .expecting 0, recordsLeft := 18, readAddr := 8 } ∧
    (after .flashRecordLoad (record [] 3)).loader.singles.toList =
      List.replicate 3 .notRead ++ List.replicate 7 .rejected ∧
    (after .flashRecordLoad (record (12#8 :: List.replicate 8 0#8) 3)).loader =
      { Loader.reset with position := .expecting 3, recordsLeft := 1, readAddr := 9 } ∧
    bad.loader.singles.get 0 = .rejected ∧ bad.loader.position = .expecting 1 ∧ bad.takeover.started = true ∧
    guideRecord (guideContent guideTable) = some guideTable ∧ guideRecord (guideContent table) = some table ∧
    guide.guide.active = table ∧ guide.loader.singles.get 3 = .accepted ∧
    guide.loader.position = .expecting 4 := by decide +kernel

/-- An earlier and a repeated kind, an image number not above the last one read, a rejected kind behind kinds passed
over, and the last record. -/
theorem witness_SettingsLoading_walk :
    let bad (kind : Nat) : List Byte := (recordFrame kind [0#8, 121#8]).dropLast ++ [0#8]
    let s (kind place left : Nat) := loadingFrom (bad kind) (.expecting place) left 0
    let image (last : Nat) := (s 6 5 2).setLoader { (s 6 5 2).loader with lastImage := some last }
    let load (x : State) := after .flashRecordLoad x
    let singles (x : State) := (load x).loader.singles.toList
    let fault (places : List (Fin 16)) : Option Detail := some (.members (places.foldl FlagSet.insert (FlagSet.empty 16)))
    let faults (x : State) := (load x).interp.causes.get Cause.startUpFault.index
    (load (s 3 3 2)).loader.position = .expecting 3 ∧ faults (s 3 3 2) = fault [2] ∧
    singles (s 3 3 2) = List.replicate 10 .notRead ∧
    (load (image 121)).loader.lastImage = some 121 ∧ faults (image 121) = fault [5] ∧
    (load (image 120)).loader.images.get 1 = .rejected ∧ (load (image 120)).loader.lastImage = some 121 ∧
    (load (s 7 3 2)).loader.position = .expecting 7 ∧ faults (s 7 3 2) = fault [3, 4, 6] ∧
    singles (s 7 3 2) = List.replicate 3 .notRead ++ [.absent, .absent, .rejected] ++ List.replicate 4 .notRead ∧
    (load (s 7 3 2)).loader.images.get 0 = .absent ∧
    (load (s 11 9 1)).loader.position = .done ∧ (load (s 11 9 1)).interp.startUp = .ready ∧
    singles (s 10 9 1) = List.replicate 8 .notRead ++ [.rejected, .absent] := by decide +kernel

/-- A good header without records; a guide record's table; the first two bytes of an image record. -/
theorem witness_SettingsLoading_empty :
    let t := after (.flashHeaderLoad true)
      (loadingFrom [0x46#8, 0x56#8, 0x32#8, 0x31#8, 0#8, 1#8, 0#8, 0#8] .header 0 0)
    t.loader.singles = Tab.replicate 10 .absent ∧ t.interp.startUp = .ready ∧
    guideRecord (guideGeneralWords guideTable ++ guideTable.setsInUse.flatMap guideSetWords) = some guideTable ∧
    imageNumber [0#8, 121#8] = some 121 ∧ imageNumber [0#8] = none := by decide +kernel

/-- Records of good CRC whose contents fail their checks: PALETTES of two bytes, an IMAGE record of two bytes. -/
theorem witness_SettingsLoading_content :
    let s (kind left : Nat) := loadingFrom (recordFrame kind [0#8, 121#8]) (.expecting 4) left 0
    (∀ left, ¬ (s 5 left).accepts [0#8, 121#8] .palettes) ∧ (∀ left, ¬ (s 6 left).acceptsImage [0#8, 121#8]) ∧
    (after .flashRecordLoad (s 5 2)).loader.singles.get 4 = .rejected ∧
    (after .flashRecordLoad (s 5 1)).loader.singles.get 4 = .rejected ∧
    (after .flashRecordLoad (s 6 2)).loader.images.get 1 = .rejected ∧
    (after .flashRecordLoad (s 6 1)).loader.images.get 1 = .rejected ∧
    (after .flashRecordLoad (s 6 1)).interp.startUp = .ready := by
  refine ⟨fun left => (by decide : ¬ ([0#8, 121#8] : List Byte).length = 4096), ?_, by decide +kernel⟩
  rintro left ⟨j, x, bytes, ⟨w, h, f, pl, pad, -, -, -, e⟩, -⟩
  have length := congrArg List.length e
  simp [bytesOfWords, bytesOfWord] at length

/-- A record frame at the start of the flash meets the hypotheses of `SettingsRecordsApplied`, whatever its content, its
place and the records left. -/
theorem witness_SettingsRecordsApplied (kind place left : Nat) (content : List Byte)
    (h : 9 + content.length ≤ 524288) :
    let s := loadingFrom (recordFrame kind content) (.expecting place) left 0
    s.loader.position = .expecting place ∧ s.loader.recordsLeft = left ∧
    s.loader.readAddr + 9 + content.length ≤ 524288 ∧
    s.flash.readBytes flashDefault s.loader.readAddr (9 + content.length) = recordFrame kind content := by
  have length : (recordFrame kind content).length = 9 + content.length := by
    simp only [recordFrame, frameBody, List.length_append, List.length_cons, bytesOf32, List.length_nil]
    omega
  refine ⟨rfl, rfl, ?_, ?_⟩
  · show 0 + 9 + content.length ≤ 524288
    omega
  · exact length ▸ readBytes_writeBytes (size := 524288) (wf_nil) (by rw [length]; omega)

/-- A part that has read a record of a kind at a place of the walk. -/
def recordRead (kind place : Nat) (content : List Byte) : State :=
  after .flashRecordLoad (loadingFrom (recordFrame kind content) (.expecting place) 2 0)

/-- A takeover record, with the reverse request released and engaged. -/
theorem witness_SettingsRecordsApplied_takeover :
    let content := bytesOfWords (takeoverWords TakeoverSettings.reset)
    let t := recordRead 1 0 content
    let engaged := after .flashRecordLoad ((loadingFrom (recordFrame 1 content) (.expecting 0) 2 0).setSignals
      { ready.signals with request := .engaged })
    (takeoverOf (takeoverWords TakeoverSettings.reset)).toOption = some TakeoverSettings.reset ∧
    t.takeover.started = true ∧ (t.stream camera).state = .priming ∧ t.loader.singles.get 0 = .accepted ∧
    t.loader.position = .expecting 1 ∧ engaged.takeover.state = .switchingIn ∧ engaged.takeover.reverse = true := by
  decide +kernel

/-- A signals record with one entry. -/
theorem witness_SettingsRecordsApplied_signals :
    let t := recordRead 2 1 (bytesOfWords (signalSettingsWords ⟨10, .activeLow, .can, 125⟩ ++
      (1#16 :: signalEntryWords entry) ++ List.replicate 6 0#16))
    signalEntryOf (signalEntryWords entry) = some entry ∧ t.signals.settings.interval = 10 ∧
    t.signals.map.get 0 = some entry ∧ t.loader.singles.get 1 = .accepted := by decide +kernel

/-- A screen record, and one whose source another screen names. -/
theorem witness_SettingsRecordsApplied_screen :
    let record : ScreenRecord := { ScreenRecord.reset true with width := 320, height := 240, source := some 1 }
    let content := bytesOfWords (screenWords record)
    let t := recordRead 3 2 content
    let s := loadingFrom (recordFrame 3 content) (.expecting 2) 2 0
    let named := after .flashRecordLoad (s.setScreen 1 { s.screen 1 with active := record })
    screenOf (screenWords record) = some record ∧
    (t.screen 0).shadow = record ∧ (t.screen 0).started = true ∧ t.loader.singles.get 2 = .accepted ∧
    named.loader.singles.get 2 = .rejected ∧ (named.screen 0).started = true := by decide +kernel

/-- A record of one pattern. -/
theorem witness_SettingsRecordsApplied_patterns :
    let t := recordRead 7 5 (bytesOfWords ([1#16, 14#16] ++ patternWords (pattern 7 true)))
    t.chimes.patterns.get 14 = some (pattern 7 true) ∧ t.loader.singles.get 5 = .accepted := by decide +kernel

/-- A park rates record. -/
theorem witness_SettingsRecordsApplied_park :
    let t := recordRead 8 7 (bytesOfWords (parkWords ⟨[⟨50, 10⟩], 5⟩))
    t.chimes.rates = ⟨[⟨50, 10⟩], 5⟩ ∧ t.loader.position = .expecting 8 := by decide +kernel

/-- An image of three by one pixels. -/
theorem witness_SettingsRecordsApplied_image :
    let t := recordRead 6 5 (bytesOfWords [127#16, 3#16, 1#16, 0#16, 3#16] ++ [7#8, 8#8, 9#8, 0#8])
    (t.overlay.images.get 127).map ImageDesc.pages = some [0] ∧ t.loader.images.get 7 = .accepted ∧
    t.loader.position = .expecting 5 ∧
    (List.range 4).map (fun b => t.overlay.store.read storeDefault b) = [7#8, 8#8, 9#8, 0#8] := by decide +kernel

/-- Four palettes, at their place and behind kinds passed over, with records left and as the last one. -/
theorem witness_SettingsRecordsApplied_palettes (place left : Nat) : ∃ content : List Byte,
    let s := loadingFrom (recordFrame 5 content) (.expecting place) left 0
    content.length = 4096 ∧ s.accepts content .palettes ∧
    s.flash.readBytes flashDefault s.loader.readAddr (9 + content.length) = recordFrame 5 content := by
  have any (content : List Byte) (h : content.length = 4096) :=
    witness_SettingsRecordsApplied 5 place left content (h ▸ Nat.le_of_ble_eq_true rfl)
  exact ⟨List.replicate 4096 9#8, List.length_replicate, List.length_replicate, (any _ List.length_replicate).2.2.2⟩

/-- A MIX group with every gain above unity, and what its fields give. -/
theorem witness_SettingsRecordsApplied_mix (place left : Nat) :
    let gains := List.replicate 80 40000#16
    let content := bytesOfWords (gains ++ [1#16, 32768#16, 7#16])
    let s := loadingFrom (recordFrame 9 content) (.expecting place) left 0
    s.accepts content .mix ∧
    s.flash.readBytes flashDefault s.loader.readAddr (9 + content.length) = recordFrame 9 content ∧
    (mixRecord (gains ++ [1#16, 32768#16, 7#16])).map (fun m => ((m.gains.get 9).get 7, m.rampStep, m.duckFactor)) =
      some (32768, 1, 32768) := by
  have length : (bytesOfWords (List.replicate 80 40000#16 ++ [1#16, 32768#16, 7#16])).length = 166 := by decide +kernel
  refine ⟨⟨List.replicate 80 40000#16, 1#16, 32768#16, 7#16, ?_⟩, ?_, by decide +kernel⟩
  · exact ⟨List.length_replicate, by decide, by decide, by decide, by decide, rfl⟩
  · exact (witness_SettingsRecordsApplied 9 place left _ (by rw [length]; exact Nat.le_of_ble_eq_true rfl)).2.2.2

/-- A PARK_RATES record that passes over PATTERNS, and one that is the last. -/
theorem witness_SettingsRecordsApplied_passed :
    let content := bytesOfWords (parkWords ⟨[⟨50, 10⟩], 5⟩)
    let s (left : Nat) := loadingFrom (recordFrame 8 content) (.expecting 6) left 0
    let singles (left : Nat) := (after .flashRecordLoad (s left)).loader.singles.toList
    (∀ left, (s left).accepts content .parkRates) ∧
    singles 2 = List.replicate 5 .notRead ++ [.absent, .accepted, .notRead, .notRead, .notRead] ∧
    singles 1 = List.replicate 5 .notRead ++ [.absent, .accepted, .absent, .absent, .absent] ∧
    (after .flashRecordLoad (s 1)).chimes.rates = ⟨[⟨50, 10⟩], 5⟩ ∧
    (after .flashRecordLoad (s 1)).interp.startUp = .ready := by
  refine ⟨fun left => ⟨⟨[⟨50, 10⟩], 5⟩, ?_, rfl⟩, by decide +kernel⟩
  unfold ratesGood
  decide

/-- An image that passes over PALETTES, and one that is the last record. -/
theorem witness_SettingsRecordsApplied_images :
    let content := bytesOfWords [127#16, 3#16, 1#16, 0#16, 3#16] ++ [7#8, 8#8, 9#8, 0#8]
    let s (left : Nat) := loadingFrom (recordFrame 6 content) (.expecting 4) left 0
    let t (left : Nat) := after .flashRecordLoad (s left)
    (∀ left, (s left).acceptsImage content) ∧
    (t 2).loader.singles.get 4 = .absent ∧ (t 2).loader.images.get 7 = .accepted ∧
    (t 2).loader.position = .expecting 5 ∧ (t 1).interp.startUp = .ready ∧ (t 1).loader.images.get 7 = .accepted ∧
    (t 1).loader.images.get 0 = .absent ∧ (t 1).loader.lastImage = some 127 := by
  refine ⟨fun left => ⟨7, ⟨3, 1, .index8, 3⟩, [7#8, 8#8, 9#8], ?_, ?_⟩, by decide +kernel⟩
  · exact ⟨3#16, 1#16, 0#16, 3#16, [0#8], rfl, rfl, rfl, rfl⟩
  · have pages : ([7#8, 8#8, 9#8].length + 511) / 512 ≤ State.reset.overlay.freePages.length := by decide +kernel
    exact pages

/-- The laws that the image clauses ask, in the state of an image record to be read. -/
theorem witness_SettingsRecordsApplied_laws (left : Nat) :
    let s := loadingFrom (recordFrame 6 (bytesOfWords [127#16, 3#16, 1#16, 0#16, 3#16] ++ [7#8, 8#8, 9#8, 0#8]))
      (.expecting 4) left 0
    memoryLaw s ∧ pageLaw s ∧ s.overlay.images.get (flashImage 7) = none := by
  refine ⟨⟨rfl, wf_writeBytes wf_nil (by decide +kernel)⟩, ⟨?_, ?_, ?_⟩, rfl⟩
  · have pages : ready.overlay.allPages = List.finRange 2048 := by decide +kernel
    show ready.overlay.allPages.Perm _
    rw [pages]
  · have free : ready.overlay.freePages = List.finRange 2048 := by decide +kernel
    show ready.overlay.freePages.Pairwise _
    rw [free]
    exact List.pairwise_lt_finRange 2048
  · intro n d h
    have none' : ∀ n : Fin 128, ready.overlay.images.get n = none := by decide +kernel
    exact absurd ((none' n).symm.trans h) (by simp)

/-! ### Resets -/

/-- A part with something to reset: stream 2, sound stream 0, two objects, two chimes and two pending items. -/
def busyPart : State :=
  let object (k : ScreenId) : ObjectFields := ⟨k, .notice, 120, 0, 0, 0, 255, true, false, none, none⟩
  let c : Context := ⟨3, 0, 2, 0, 1, 0#32, 1⟩
  { (withImage.setStream 2 (small .running [0])).setSound (fifoWith .running 2 false).sound with
    chimes := { chiming.chimes with voices := (chiming.chimes.voices.set 0 (some c)), queue := [⟨15, 5, 1⟩] }
    overlay := { withImage.overlay with
      objects := (withImage.overlay.objects.set 0 (some (object 0))).set 1 (some (object 1)) }
    tables := { ready.tables with
      items := (ready.tables.items.set Group.palettes.index (some ⟨some (Tab.replicate 3 true), 9#8, none⟩)).set
        Group.mix.index (some ⟨none, 8#8, none⟩) } }

theorem witness_Resets :
    let loading := ready.setInterp { ready.interp with startUp := .loading }
    let reverse := ready.setTakeover { TakeoverUnit.reset with state := .showing, reverse := true }
    let full := run 41 .resetFull [0#16] busyPart
    let media := run 41 .resetMedia [1#16] busyPart
    (after .resetLine busyPart).link = LinkUnit.reset ∧ (after .resetLine busyPart).chimes = ChimeUnit.reset ∧
    answer 41 .resetFull [0#16] loading = some .busy ∧ answer 41 .resetMedia [1#16] loading = some .busy ∧
    answer 41 .resetFull [2#16] ready = some .badValue ∧ answer 41 .resetMedia [2#16] ready = some .badValue ∧
    answer 41 .resetFull [0#16] reverse = some .reverseHeld ∧
    lastReply full = some (.ok, []) ∧ full.streams = State.reset.streams ∧ full.cameraLocked = true ∧
    full.interp.startUp = .loading ∧
    lastReply media = some (.ok, []) ∧ (media.stream 2).state = .closed ∧ (media.fifo 0).state = .closed ∧
    (media.overlay.objects.get 0).isSome = true ∧ (media.overlay.objects.get 1).isSome = false ∧
    (media.overlay.images.get 120).isSome = true ∧
    media.chimes.presentPatterns = [15] ∧ media.item .palettes = none ∧ (media.item .mix).isSome = true ∧
    media.tables.outcomes.get Group.palettes.index = ⟨.droppedReset, some 9#8, none⟩ := by decide +kernel

/-- A save in its erase step is cut by the reset line. -/
theorem witness_Resets_save :
    (saving ready).loader.saveStep ≠ .none ∧ (after .resetLine (saving ready)).freeCount = 1 ∧
    (after .resetLine (saving ready)).loader = Loader.reset := by decide +kernel

/-- A FULL reset during a save; a MEDIA reset with pattern 15 playing, suspended, and absent. -/
theorem witness_Resets_cases :
    let full := run 41 .resetFull [0#16] (saving ready)
    let c (q : Fin 16) : Context := ⟨q, 0, 2, 0, 1, 0#32, 1⟩
    let media (a b : Option Context) (stack : List Context) := (run 41 .resetMedia [1#16] (chiming.setChimes
      { chiming.chimes with voices := (chiming.chimes.voices.set 0 a).set 1 b, stack := stack })).chimes
    full.freeCount = 1 ∧ full.interp.startUp = .loading ∧ lastReply full = some (.ok, []) ∧
    (media (some (c 1)) (some (c 15)) []).voices.toList = [none, some (c 15)] ∧
    (media (some (c 1)) (some (c 2)) [c 3, c 15]).voices.toList = [some (c 15), none] ∧
    (media (some (c 1)) (some (c 2)) [c 3]).voices.toList = [none, none] ∧
    (media (some (c 1)) (some (c 2)) [c 3]).starts = chiming.chimes.starts := by decide +kernel

/-! ### Laws that every step keeps: a state that satisfies each, and a step from it -/

/-- A part with two screens, a stream, an object, a chime and an item, and a command that waits. -/
def lawful : State :=
  let source (o : Option StreamId) : ScreenRecord := { ScreenRecord.reset true with source := o }
  let c : Context := ⟨3, 0, 2, 0, 1, 0#32, 1⟩
  { (ready.setStream 1 (small .running [0, 1])).setScreen 1
      { ScreenUnit.reset false with active := source (some 1), shadow := source (some 1) } with
    chimes := { chiming.chimes with
      voices := chiming.chimes.voices.set 0 (some c), queue := [⟨2, 2, 1⟩, ⟨0, 0, 1⟩] }
    interp := { ready.interp with causes := ready.interp.causes.set 0 (some (.count 1)) }
    tables := { ready.tables with items := ready.tables.items.set Group.mix.index (some ⟨none, 8#8, none⟩) }
    pending := [.cabinLinkLoss] }

theorem witness_step : ∃ t, step lawful = .next t := ⟨_, rfl⟩

theorem witness_LineMemoryKept : lineMemoryLaw lawful := by
  unfold lineMemoryLaw
  decide +kernel

theorem witness_MemoryFormKept : memoryLaw lawful := ⟨rfl, rfl⟩

theorem witness_QueuesCausesItemsKept : queueLaw lawful ∧ attentionLaw lawful ∧ itemLaw lawful := by
  refine ⟨?_, ?_, ?_⟩
  · unfold queueLaw
    decide +kernel
  · unfold attentionLaw
    decide +kernel
  · intro g i h
    cases g <;> cases h
    rfl

theorem witness_NormalSourcesKept : sourceLaw lawful := by
  unfold sourceLaw State.names
  decide +kernel

theorem witness_TakeoverAndTimingKept : takeoverLaw lawful ∧ timingLaw lawful := by
  unfold takeoverLaw timingLaw
  decide +kernel

theorem witness_ParkingKept : parkingLaw lawful := by
  unfold parkingLaw State.parksSource
  decide +kernel

theorem witness_GainsKept : gainLaw lawful := by
  unfold gainLaw Gains.bounded
  decide +kernel

theorem witness_ChimesKept : chimeLaw lawful := by
  unfold chimeLaw
  decide +kernel

/-- The pages of a part with one image: the two lowest are its own, the others are free. -/
theorem pages_withImage :
    withImage.overlay.allPages = (List.finRange 2048).drop 2 ++ (List.finRange 2048).take 2 ∧
    withImage.overlay.freePages = (List.finRange 2048).drop 2 ∧
    ∀ n d, withImage.overlay.images.get n = some d → d = ⟨30, 20, .index8, 1, [0, 1]⟩ := by
  refine ⟨by decide +kernel, by decide +kernel, ?_⟩
  have other : ∀ n : Fin 128, withImage.overlay.images.get n = none ∨
      withImage.overlay.images.get n = some ⟨30, 20, .index8, 1, [0, 1]⟩ := by decide +kernel
  intro n d h
  rcases other n with e | e
  · rw [e] at h
    cases h
  · rw [e] at h
    exact (Option.some.inj h).symm

/-- The pages and images of a part with one image, which is also the premise of IMAGE DATA and FREE IMAGE. -/
theorem witness_PagesAndImagesKept : pageLaw withImage ∧ imageLaw withImage := by
  obtain ⟨h1, h2, h3⟩ := pages_withImage
  refine ⟨⟨?_, ?_, ?_⟩, ?_, ?_⟩
  · rw [h1]
    exact List.perm_append_comm.trans (by rw [List.take_append_drop])
  · rw [h2]
    exact (List.pairwise_lt_finRange 2048).sublist (List.drop_sublist 2 _)
  · intro n d h
    rw [h3 n d h]
    decide +kernel
  · intro e f h
    have : ∀ e : Fin 96, withImage.overlay.objects.get e = none := by decide +kernel
    rw [this e] at h
    cases h
  · intro k c h
    have : ∀ k : Fin 3, (withImage.overlay.screens.get k).list = [] := by decide +kernel
    rw [this k] at h
    cases h

end Sys2Proof.Tests
end

section
/-! PROOFS. The validation of a guide table copy and the interpolation between its sets (R76, R80, R81). -/

namespace Sys2Proof.Machine

open Sys2Proof

/-! ### The sets in use -/

theorem GuideTable.mem_used {g : GuideTable} {o : Option GuideSet} :
    o ∈ g.used ↔ ∃ k : Fin 17, k.val < g.setCount ∧ g.sets.get k = o := by
  unfold GuideTable.used Tab.get
  rw [List.mem_take_iff_getElem]
  constructor
  · rintro ⟨k, hk, rfl⟩
    rw [g.sets.len] at hk
    exact ⟨⟨k, by omega⟩, by simp only; omega, rfl⟩
  · rintro ⟨k, hk, rfl⟩
    exact ⟨k, by rw [g.sets.len]; omega, rfl⟩

theorem GuideTable.pairwise_used {g : GuideTable} {R : Option GuideSet → Option GuideSet → Prop} :
    g.used.Pairwise R ↔
      ∀ j k : Fin 17, j < k → k.val < g.setCount → R (g.sets.get j) (g.sets.get k) := by
  have len : g.used.length = min g.setCount 17 := by simp [GuideTable.used, g.sets.len]
  have entry (k : Fin 17) (hk : k.val < g.used.length) : g.used[k.val] = g.sets.get k := by
    simp [GuideTable.used, Tab.get]
  rw [List.pairwise_iff_getElem]
  constructor
  · intro h j k hjk hk
    have := h j k (by omega) (by omega) hjk
    rwa [entry, entry] at this
  · intro h i j hi hj hij
    have := h ⟨i, by omega⟩ ⟨j, by omega⟩ hij (by simp only; omega)
    rwa [← entry _ hi, ← entry _ hj] at this

/-! ### Validation (R76) -/

/-- The keys of two sets are in order, where both sets are written. -/
def KeysRise (o p : Option GuideSet) : Prop :=
  ∀ a b : GuideSet, o = some a → p = some b → a.key < b.key

@[simp] theorem keysRise_some {a b : GuideSet} : KeysRise (some a) (some b) ↔ a.key < b.key := by
  simp [KeysRise]

/-- Neighbours in order are enough, because the order of keys is transitive across written sets. -/
theorem risingKeys_iff_pairwise {l : List (Option GuideSet)} (written : none ∉ l) :
    risingKeys l = true ↔ l.Pairwise KeysRise := by
  match l with
  | [] => simp [risingKeys]
  | [o] => simp [risingKeys]
  | none :: _ :: _ => simp at written
  | some _ :: none :: _ => simp at written
  | some a :: some b :: rest =>
    have written' : none ∉ some b :: rest := fun h => written (List.mem_cons_of_mem _ h)
    have ih := risingKeys_iff_pairwise written'
    simp only [risingKeys, Bool.and_eq_true, decide_eq_true_eq, ih, List.pairwise_cons (a := some a)]
    refine and_congr_left fun tail => ⟨fun hab o ho => ?_, fun first => ?_⟩
    · match o with
      | none => exact absurd ho written'
      | some c =>
        rw [keysRise_some]
        rcases List.mem_cons.1 ho with e | hc
        · cases e
          exact hab
        · exact Int.lt_trans hab (keysRise_some.1 (List.rel_of_pairwise_cons tail hc))
    · exact keysRise_some.1 (first _ List.mem_cons_self)

/-- Check 4 with check 2 leaves no set in use unwritten: such a set has vertex count 0 (R73). -/
theorem none_notMem_of_vertexCount {l : List (Option GuideSet)} {m : Nat} (hm : 2 ≤ m)
    (counts : ∀ o ∈ l, vertexCount o = m) : none ∉ l := by
  intro h
  have : 0 = m := counts none h
  omega

/-- The five checks, with the last two over the list of the sets in use. -/
theorem GuideTable.valid_iff (g : GuideTable) : g.valid = true ↔
    g.setCount ≤ 17 ∧ (2 ≤ g.vertices ∧ g.vertices ≤ 12) ∧ g.band1 ≤ g.band2 ∧
      (∀ o ∈ g.used, vertexCount o = g.vertices) ∧ g.used.Pairwise KeysRise := by
  simp only [GuideTable.valid, Bool.and_eq_true, within_iff, decide_eq_true_eq, List.all_eq_true,
    beq_iff_eq, Nat.zero_le, true_and, and_assoc]
  refine and_congr_right fun _ => and_congr_right fun hm => and_congr_right fun _ =>
    and_congr_right fun _ => and_congr_right fun counts => ?_
  exact risingKeys_iff_pairwise (none_notMem_of_vertexCount hm counts)

/-- Settles O27: the checks over the list of the sets in use are the checks by set number. -/
theorem guideValidation : Obligations.GuideValidation := by
  intro g
  rw [GuideTable.valid_iff, GuideTable.pairwise_used, and_assoc]
  simp only [GuideTable.mem_used, forall_exists_index, and_imp]
  refine and_congr_right fun _ => and_congr_right fun _ => and_congr_right fun _ =>
    and_congr_right fun _ => and_congr ?_ ?_
  · exact ⟨fun h k hk => h _ k hk rfl, fun h o k hk e => e ▸ h k hk⟩
  · exact ⟨fun h j k a b hjk hk => h j k hjk hk a b, fun h j k hjk hk a b => h j k a b hjk hk⟩

/-! ### Bracket (R80, step 2) -/

/-- Index `i` is the bracket index of steering `s`: the largest one from 0 to n - 2 whose key is at most `s`. -/
structure IsBracket (sets : List GuideSet) (s : Int) (i : Nat) : Prop where
  room : i + 2 ≤ sets.length
  key_le : ∀ x, sets[i]? = some x → x.key ≤ s
  largest : ∀ j u, i < j → j + 2 ≤ sets.length → sets[j]? = some u → s < u.key

/-- The index one further on is the one of the list with a set put before it. -/
theorem IsBracket.cons {sets : List GuideSet} {s : Int} {i : Nat} (a : GuideSet) (h : IsBracket sets s i) :
    IsBracket (a :: sets) s (i + 1) where
  room := by simpa using h.room
  key_le x hx := h.key_le x (by simpa using hx)
  largest j u hj hroom hu := by
    obtain ⟨j, rfl⟩ : ∃ k, j = k + 1 := ⟨j - 1, by omega⟩
    exact h.largest j u (by omega) (by simpa using hroom) (by simpa using hu)

/-- The search from index `i` on, where the first key is at most `s`: it may stop at the first key above `s`, since
the keys behind that are larger still. -/
theorem bracketIndex_isBracket {s : Int} (i : Nat) {a b : GuideSet} {rest : List GuideSet}
    (rising : (a :: b :: rest).Pairwise (fun x y => x.key < y.key)) (ha : a.key ≤ s) :
    ∃ k, bracketIndex s i (a :: b :: rest) = i + k ∧ IsBracket (a :: b :: rest) s k := by
  have first_le : ∀ x, (a :: b :: rest)[0]? = some x → x.key ≤ s := by
    intro x hx
    cases hx
    exact ha
  match rest, rising with
  | [], _ => exact ⟨0, rfl, by simp, first_le, by simp only [List.length]; omega⟩
  | c :: rest, rising =>
    have tail := (List.pairwise_cons.1 rising).2
    by_cases hb : b.key ≤ s
    · obtain ⟨k, e, hk⟩ := bracketIndex_isBracket (i + 1) tail hb
      exact ⟨k + 1, by rw [bracketIndex, if_pos hb, e]; omega, hk.cons a⟩
    · refine ⟨0, by rw [bracketIndex, if_neg hb]; rfl, by simp, first_le, fun j u hj _ hu => ?_⟩
      obtain ⟨j, rfl⟩ : ∃ k, j = k + 1 := ⟨j - 1, by omega⟩
      have hu : u ∈ b :: c :: rest := List.mem_of_getElem? hu
      rcases List.mem_cons.1 hu with rfl | hmem
      · omega
      · have := List.rel_of_pairwise_cons tail hmem
        omega

/-! ### Weight (R80, step 3) -/

/-- The weight of a steering from `lo` to `hi`: it is at most 256, and 256 at the upper key alone. -/
theorem weight_spec {lo hi s : Int} (hlt : lo < hi) (hlo : lo ≤ s) (hhi : s ≤ hi) :
    let w := ((s - lo) * 256 / (hi - lo)).toNat
    (w : Int) = ((s - lo) * 256).fdiv (hi - lo) ∧ w ≤ 256 ∧ (w = 256 ↔ s = hi) := by
  have pos : 0 < hi - lo := by omega
  have nonneg : 0 ≤ (s - lo) * 256 / (hi - lo) := Int.ediv_nonneg (by omega) (Int.le_of_lt pos)
  have le : (s - lo) * 256 / (hi - lo) ≤ 256 := Int.ediv_le_of_le_mul pos (by omega)
  have full : 256 ≤ (s - lo) * 256 / (hi - lo) ↔ s = hi := by
    rw [Int.le_ediv_iff_mul_le pos]
    omega
  rw [Int.fdiv_eq_ediv_of_nonneg _ (Int.le_of_lt pos)]
  exact ⟨Int.toNat_of_nonneg nonneg, by omega, by omega⟩

theorem key_le_last {sets : List GuideSet} {x z : GuideSet}
    (rising : sets.Pairwise (fun x y => x.key < y.key)) (hz : sets.getLast? = some z) (hx : x ∈ sets) :
    x.key ≤ z.key := by
  obtain ⟨init, rfl⟩ := List.getLast?_eq_some_iff.1 hz
  rcases List.mem_append.1 hx with h | h
  · exact Int.le_of_lt ((List.pairwise_append.1 rising).2.2 x h z List.mem_cons_self)
  · cases List.mem_singleton.1 h
    exact Int.le_refl _

/-- The bracket encloses a steering up to the last key: either its upper set is the last one, or the upper key is
already above the steering. -/
theorem IsBracket.le_next {sets : List GuideSet} {s : Int} {i : Nat} {y z : GuideSet} (h : IsBracket sets s i)
    (rising : sets.Pairwise (fun x y => x.key < y.key)) (hy : sets[i + 1]? = some y)
    (hz : sets.getLast? = some z) (hs : s ≤ z.key) : s ≤ y.key ∧ (s = y.key ↔ s = z.key) := by
  by_cases last : i + 2 = sets.length
  · have : y = z := by
      rw [List.getLast?_eq_getElem?, ← last] at hz
      exact Option.some.inj (hy.symm.trans hz)
    subst this
    exact ⟨hs, Iff.rfl⟩
  · have room := h.room
    have above : s < y.key := h.largest (i + 1) y (by omega) (by omega) hy
    have below : y.key ≤ z.key := key_le_last rising hz (List.mem_of_getElem? hy)
    omega

/-! ### The clamped steering with its bracket (R80) -/

theorem clampInt_mem {lo hi : Int} (h : lo ≤ hi) (i : Int) : lo ≤ clampInt lo hi i ∧ clampInt lo hi i ≤ hi := by
  unfold clampInt
  omega

theorem bracketOf_single (a : GuideSet) (s : Int) :
    bracketOf [a] s = (max a.key (min a.key s), ⟨0, 0⟩) := rfl

theorem bracketOf_of_isBracket {sets : List GuideSet} {s : Int} {a z x y : GuideSet} {i : Nat}
    (ha : sets.head? = some a) (hz : sets.getLast? = some z)
    (hi : bracketIndex (clampInt a.key z.key s) 0 sets = i) (hx : sets[i]? = some x) (hy : sets[i + 1]? = some y) :
    bracketOf sets s = (clampInt a.key z.key s,
      ⟨i, ((clampInt a.key z.key s - x.key) * 256 / (y.key - x.key)).toNat⟩) := by
  simp [bracketOf, ha, hz, hi, hx, hy]

/-- Over two or more ascending keys: the bracket index of the clamped steering, and the weight between its sets. -/
theorem bracketOf_spec {sets : List GuideSet} {s : Int} {a z : GuideSet}
    (rising : sets.Pairwise (fun x y => x.key < y.key)) (ha : sets.head? = some a) (hz : sets.getLast? = some z)
    (two : 2 ≤ sets.length) :
    ∃ i w x y, bracketOf sets s = (clampInt a.key z.key s, ⟨i, w⟩) ∧ IsBracket sets (clampInt a.key z.key s) i ∧
      sets[i]? = some x ∧ sets[i + 1]? = some y ∧
      (w : Int) = ((clampInt a.key z.key s - x.key) * 256).fdiv (y.key - x.key) ∧ w ≤ 256 ∧
      (w = 256 ↔ clampInt a.key z.key s = z.key) := by
  have ends : a.key ≤ z.key := key_le_last rising hz (List.mem_of_head? ha)
  obtain ⟨low, high⟩ := clampInt_mem ends s
  obtain ⟨i, index, bracket⟩ : ∃ i, bracketIndex (clampInt a.key z.key s) 0 sets = i ∧
      IsBracket sets (clampInt a.key z.key s) i := by
    match sets, ha, two with
    | _ :: _ :: _, rfl, _ => simpa using bracketIndex_isBracket 0 rising low
  have room := bracket.room
  obtain ⟨x, hx⟩ : ∃ x, sets[i]? = some x := ⟨_, List.getElem?_eq_getElem (by omega)⟩
  obtain ⟨y, hy⟩ : ∃ y, sets[i + 1]? = some y := ⟨_, List.getElem?_eq_getElem (by omega)⟩
  have keys : x.key < y.key := by
    obtain ⟨_, rfl⟩ := List.getElem?_eq_some_iff.1 hx
    obtain ⟨_, rfl⟩ := List.getElem?_eq_some_iff.1 hy
    exact List.pairwise_iff_getElem.1 rising _ _ _ _ (Nat.lt_succ_self i)
  obtain ⟨upper, atEnd⟩ := bracket.le_next rising hy hz high
  obtain ⟨floor, le, full⟩ := weight_spec keys (bracket.key_le x hx) upper
  exact ⟨i, _, x, y, bracketOf_of_isBracket ha hz index hx hy, bracket, hx, hy, floor, le, full.trans atEnd⟩

/-! ### Vertices (R81) -/

/-- The rounding of R81 is toward minus infinity, also for a negative difference. -/
theorem interpolate_eq_fdiv (a b : Int) (w : Nat) :
    interpolate a b w = a + ((b - a) * w + 128).fdiv 256 := by
  rw [interpolate, Int.fdiv_eq_ediv_of_nonneg _ (by omega)]

@[simp] theorem interpolate_zero (a b : Int) : interpolate a b 0 = a := by
  simp only [interpolate]
  omega

@[simp] theorem interpolate_full (a b : Int) : interpolate a b 256 = b := by
  simp only [interpolate]
  omega

/-- A weighted difference stays between 0 and the whole difference, and the rounding keeps that. -/
theorem interpolate_between (a b : Int) {w : Nat} (hw : w ≤ 256) :
    min a b ≤ interpolate a b w ∧ interpolate a b w ≤ max a b := by
  have hw' : (w : Int) ≤ 256 := by omega
  unfold interpolate
  rcases Int.le_total a b with h | h
  · have low : 0 ≤ (b - a) * w := Int.mul_nonneg (by omega) (by omega)
    have high : (b - a) * w ≤ (b - a) * 256 := Int.mul_le_mul_of_nonneg_left hw' (by omega)
    omega
  · have low : (b - a) * 256 ≤ (b - a) * w := Int.mul_le_mul_of_nonpos_left (by omega) hw'
    have high : (b - a) * w ≤ 0 := Int.mul_nonpos_of_nonpos_of_nonneg (by omega) (by omega)
    omega

theorem tracksOf_pair {sets : List GuideSet} {i : Nat} {x y : GuideSet} (w : Nat) (hx : sets[i]? = some x)
    (hy : sets[i + 1]? = some y) :
    tracksOf sets ⟨i, w⟩ = (List.zipWith (interpolateVertex w) x.left y.left,
      List.zipWith (interpolateVertex w) x.right y.right) := by
  simp [tracksOf, hx, hy]

theorem tracksOf_single (x : GuideSet) : tracksOf [x] ⟨0, 0⟩ = (x.left, x.right) := rfl

/-- Settles O28: the bracket is that of the clamped steering, and each coordinate is interpolated by the floor. -/
theorem guideInterpolation : Obligations.GuideInterpolation := by
  refine ⟨fun sets s a z rising ha hz => ?_, fun sets i w x y hx hy => ?_, tracksOf_single⟩
  · rcases Nat.lt_or_ge sets.length 2 with one | two
    · match sets, ha, one with
      | [_], rfl, _ =>
        cases hz
        rw [bracketOf_single]
        exact ⟨rfl, fun _ => rfl, fun two => by simp at two⟩
    · obtain ⟨i, w, x, y, e, bracket, hx, hy, weight⟩ := bracketOf_spec (s := s) rising ha hz two
      rw [e]
      exact ⟨rfl, by omega, fun _ => ⟨i, w, x, y, rfl, bracket.room, hx, hy, bracket.key_le x hx, bracket.largest,
        weight⟩⟩
  · simp only [← interpolate_eq_fdiv]
    refine ⟨tracksOf_pair w hx hy, ?_, ?_, fun a b => interpolate_between a b⟩
    · rintro a b rfl
      exact interpolate_zero a b
    · rintro a b rfl
      exact interpolate_full a b

end Sys2Proof.Machine
end
